-- ==== Sys2Proof/Word.lean ====
section
/-! DEFINITION. The word types of the slave frame validator. -/

namespace Sys2Proof

/-- A byte: unsigned, 8 bits, bit 7 the most significant (spec 00 R15). -/
abbrev Byte := BitVec 8

/-- An event word EVT[2:0] (spec 30 R55, R56). -/
abbrev EventWord := BitVec 3

end Sys2Proof
end

