-- ==== Sys2Proof/Config.lean ====
section
/-! DEFINITION. The implementation parameters of spec 00 section 4, and the free values of the model
(opaque: nothing in Lean can evaluate them, so a theorem holds for every value). -/

namespace Sys2Proof.Config

/-- SOP_VALUE, the start-of-packet marker (spec 00 R7). -/
def sopValue : Byte := 0x01#8

/-- EOP_VALUE, the end-of-packet marker (spec 00 R8). -/
def eopValue : Byte := 0x17#8

/-- FRAME_LEN, the length of an accepted frame and of the reply (spec 00 R9). -/
def frameLen : Nat := 3

/-- SOP_POS (spec 00 R9). -/
def sopPos : Fin 3 := 0

/-- PAYLOAD_POS, the status byte's place in a reply (spec 00 R9). -/
def payloadPos : Fin 3 := 1

/-- EOP_POS (spec 00 R9). -/
def eopPos : Fin 3 := 2

/-- STS_DONE (spec 00 R10). -/
def stsDone : Byte := 0x00#8

/-- STS_FAIL, the one code for pending and failed (spec 00 R10). -/
def stsFail : Byte := 0xFF#8

/-- LED_PERIOD, the period the surrounding system gives the pulse output (spec 00 R11, 70 R154). -/
def ledPeriod : Nat := 255

/-- PWM_CHANNEL: an OPEN parameter without a value (spec 00 R12, D14; log 8). -/
opaque pwmChannel : Nat

/-- P_ERR_GATES_ALL, decided false for this hardware (spec 00 R13, D8; log 7). -/
def pErrGatesAll : Bool := false

/-- FREE VALUE (log 2): what byte `a` of WB holds after draw number `epoch` left it unspecified
(reset, or a master write of more than 3 bytes; spec 10 R27, 43 R119, U1, U2). -/
opaque wbByte (epoch a : Nat) : Byte

/-- FREE VALUE (log 3): what CMP holds after draw number `n` left it unspecified
(spec 10 R31, D14, U3). -/
opaque cmpByte (n : Nat) : Byte

end Sys2Proof.Config
end

