-- ==== Sys2Proof/Syntax.lean ====
section
/-! DEFINITION. The eight event words of spec/opcode_table.json. An event word has no operand field
(spec 30 R58), so every constructor is without arguments. -/

namespace Sys2Proof

/-- The operation one event word selects (spec 30 R62). -/
inductive Instr where
  /-- EV_NONE, 000 (spec 42 R103). -/
  | evNone
  /-- EV_WR, 001 (spec 42 R104). -/
  | evWr
  /-- EV_RD, 010 (spec 42 R105). -/
  | evRd
  /-- EV_WR_RD, 011 (spec 42 R106). -/
  | evWrRd
  /-- EV_ERR, 100 (spec 42 R107). -/
  | evErr
  /-- EV_ERR_WR, 101 (spec 42 R108). -/
  | evErrWr
  /-- EV_ERR_RD, 110 (spec 42 R109). -/
  | evErrRd
  /-- EV_ERR_WR_RD, 111 (spec 42 R110). -/
  | evErrWrRd
  deriving DecidableEq, Repr

end Sys2Proof
end

