-- ==== Sys2Proof/WellFormed.lean ====
section
/-! DEFINITION. What is well formed. An instruction has no operand that could be out of range, and none
of the eight is illegal or reserved (spec 30 R57, R63). What can be ill formed is a raw word:
an event word has exactly 3 bits (spec 30 R55). -/

namespace Sys2Proof

/-- Every combination of the three event bits is legal (spec 30 R57, R63). -/
def Instr.wf : Instr → Bool
  | .evNone => true
  | .evWr => true
  | .evRd => true
  | .evWrRd => true
  | .evErr => true
  | .evErrWr => true
  | .evErrRd => true
  | .evErrWrRd => true

/-- A raw number is an event word when it fits in 3 bits (spec 30 R55). -/
def rawWordWf (w : Nat) : Bool := decide (w < 8)

end Sys2Proof
end

