-- ==== Sys2Proof/Decode.lean ====
section
/-! DEFINITION. The event word's fields, its decoder (total on the 3-bit port), the decoder of raw bytes
(rejecting by name), and the encoder. -/

namespace Sys2Proof

/-- EVT[0], WR: a master write has finished (spec 30 R56). -/
def evtWr (e : EventWord) : Bool := e.getLsbD 0

/-- EVT[1], RD: a master read has finished (spec 30 R56). -/
def evtRd (e : EventWord) : Bool := e.getLsbD 1

/-- EVT[2], ERR: the bus side reports a transport error (spec 30 R56). -/
def evtErr (e : EventWord) : Bool := e.getLsbD 2

/-- The opcode map, by the three bits ERR, RD, WR (spec 30 R62). Total: spec 30 R66. -/
def decodeEvent (e : EventWord) : Instr :=
  match evtErr e, evtRd e, evtWr e with
  | false, false, false => .evNone
  | false, false, true => .evWr
  | false, true, false => .evRd
  | false, true, true => .evWrRd
  | true, false, false => .evErr
  | true, false, true => .evErrWr
  | true, true, false => .evErrRd
  | true, true, true => .evErrWrRd

/-- Why raw bytes are no event word. -/
inductive DecodeError where
  /-- No byte at all: an event delivery carries one word (spec 30 R55). -/
  | noWord
  /-- More than one byte: there are no prefixes and no continuation words (spec 30 R55). -/
  | continuationWord
  /-- A bit above EVT[2] is set: such event kinds are not part of the interface (spec 30 R63, D5). -/
  | bitsAboveEvent
  deriving DecidableEq, Repr

/-- The decoder of raw bytes: one byte whose low three bits are the event word (spec 30 R55, R66). -/
def decodeBytes : List Byte → Except DecodeError Instr
  | [] => .error .noWord
  | [b] => if rawWordWf b.toNat then .ok (decodeEvent (b.setWidth 3)) else .error .bitsAboveEvent
  | _ :: _ :: _ => .error .continuationWord

/-- The encoding column of spec/opcode_table.json (spec 30 R62). -/
def encode : Instr → EventWord
  | .evNone => 0b000#3
  | .evWr => 0b001#3
  | .evRd => 0b010#3
  | .evWrRd => 0b011#3
  | .evErr => 0b100#3
  | .evErrWr => 0b101#3
  | .evErrRd => 0b110#3
  | .evErrWrRd => 0b111#3

/-- The `k` bytes of `w`, lowest first. -/
def bytesOf : Nat → Nat → List Byte
  | 0, _ => []
  | k + 1, w => BitVec.ofNat 8 w :: bytesOf k (w / 256)

/-- What the decoder reads from a row's word of the opcode table: `w` laid out in as many whole bytes as
`nbits` needs, provided `w` has no bit at or above `nbits`. -/
def decodeTableWord (nbits w : Nat) : Option Instr :=
  if w < 2 ^ nbits then
    match decodeBytes (bytesOf ((nbits + 7) / 8) w) with
    | .ok i => some i
    | .error _ => none
  else none

end Sys2Proof
end

