-- ==== Sys2Proof/Machine/State.lean ====
section
/-! DEFINITION. The state: the block's own (spec 10 R20), its ports (spec 43 R116), and that of the external
agents as far as the spec gives it (spec 10 R31, R32; 43 R120; 70 R154), all as plain data. -/

namespace Sys2Proof.Machine

/-- The two control states (spec 10 R21). -/
inductive CtrlState where
  /-- The status is Pending/Fail. -/
  | awaitingCommand
  /-- The status is Done. -/
  | commandReady
  deriving DecidableEq, Repr

/-- The four actions a step can emit (spec 43 R118). -/
inductive Action where
  /-- To the pulse output: the new compare value. -/
  | apply (v : Byte)
  /-- To the bus side: hand over WB for the next master write. -/
  | rearmWrite
  /-- To the bus side: hand over RB for the next master read. -/
  | rearmRead
  /-- To the outer loop: a transport error was reported. -/
  | signalError
  deriving DecidableEq, Repr

/-- The calls an action stands for (spec 43 R118, column "source call"). -/
inductive DriverCall where
  /-- `set_compare_value(channel, value)` -/
  | setCompareValue (channel : Nat) (value : Byte)
  /-- `configure_write_buffer(WB, len)` -/
  | configureWriteBuffer (len : Nat)
  /-- `configure_read_buffer(RB, len)` -/
  | configureReadBuffer (len : Nat)
  /-- `ErrorMonitor.signal()` as the outer loop sees it -/
  | errorSignal
  deriving DecidableEq, Repr

/-- The three bytes of a reply (spec 30 R61). -/
structure ReplyFrame where
  startMarker : Byte
  status : Byte
  endMarker : Byte
  deriving DecidableEq, Repr

/-- The result of frame validation (spec 40 R71). -/
inductive FrameResult where
  | ok (v : Byte)
  | invalid
  deriving DecidableEq, Repr

/-- How far the boot sequence has come (spec 70 R154, R155). -/
inductive BootStage where
  /-- A collaborator failed to initialise in step 1: the block receives no event (spec 70 R155). -/
  | failed
  /-- Step 1 is done. -/
  | broughtUp
  /-- Step 2 is done: the block has been reset. -/
  | blockReset
  /-- Step 3 is done: both buffers are armed. -/
  | armed
  /-- Step 4 is done: the block is registered as the event handler. -/
  | registered
  /-- Step 5 is done: events are delivered. -/
  | running
  deriving DecidableEq, Repr

/-- What an external agent does next: one atomic event of the execution (spec 20 R48). -/
inductive HostAct where
  /-- The bus side delivers an event word with a write count (spec 43 R122). -/
  | event (evt : EventWord) (wrCount : Nat)
  /-- MW: the master writes these bytes (spec 43 R119). -/
  | masterWrite (bytes : List Byte)
  /-- MR: the master reads `len` bytes of the reply (spec 43 R121). -/
  | masterRead (len : Nat)
  /-- The outer loop polls the error flag (spec 60 R133). -/
  | consume
  /-- RESET of the block (spec 70 R151). -/
  | reset
  /-- Boot step 1, at startup or restart; `ok` says whether every collaborator came up (spec 70 R154, R155). -/
  | bringUp (ok : Bool)
  /-- Boot step 3: both buffers are armed (spec 70 R154). -/
  | armBuffers
  /-- Boot step 4: the block is registered as the event handler (spec 70 R154, 43 R117). -/
  | registerHandler
  /-- Boot step 5: event delivery is enabled (spec 70 R154). -/
  | enableEvents
  deriving DecidableEq, Repr

/-- WB as address and byte pairs in canonical form: addresses strictly rising and below 3. An address that
is not listed holds no byte the machine determines (log 2). -/
abbrev Memory := List Host.Cell

/-- The machine. -/
structure State where
  /-- CTRL_STATE (spec 10 R21). -/
  ctrlState : CtrlState
  /-- ERR_FLAG (spec 10 R25). -/
  errFlag : Bool
  /-- WB (spec 10 R27). -/
  wb : Memory
  /-- The model's own: the draw that WB's unlisted bytes come from (log 2). -/
  wbEpoch : Nat
  /-- The input port `evt`, as last presented (spec 43 R116). -/
  evtPort : EventWord
  /-- The input port `wr_count`, as last presented (spec 43 R116, 10 R29). -/
  wrCountPort : Nat
  /-- The output port `actions`: the action list of the latest step (spec 43 R116, R118). -/
  actions : List Action
  /-- CMP, the pulse output's compare value (spec 10 R31). -/
  cmp : Byte
  /-- The model's own: the number of CMP's next draw (log 3). -/
  cmpEpoch : Nat
  /-- The pulse output's period (spec 10 R31, 00 R11). -/
  pulsePeriod : Nat
  /-- The pulse output's enable state (spec 10 R31). -/
  pulseEnabled : Bool
  /-- WR_ARMED (spec 10 R32, 43 R120). -/
  wrArmed : Bool
  /-- RD_ARMED (spec 10 R32, 43 R120). -/
  rdArmed : Bool
  /-- WR_PEND: none, or the count of a completed write not yet reported (spec 43 R120). -/
  wrPend : Option Nat
  /-- RD_PEND: a completed read is not yet reported (spec 43 R120). -/
  rdPend : Bool
  /-- How far the boot sequence has come (spec 70 R154). -/
  boot : BootStage
  /-- The bytes the latest master read returned, none before the first (spec 43 R121; log 6). -/
  lastReply : Option ReplyFrame
  /-- What the latest poll of the error flag returned, none before the first (spec 60 R133; log 6). -/
  lastPoll : Option Bool
  /-- The model's own: what the external agents will do, in order (spec 20 R48; log 1). -/
  schedule : List HostAct
  deriving DecidableEq, Repr

/-- Why the machine stops. Only HOST actions raise these, never an instruction. -/
inductive Fault where
  /-- MW while `WR_ARMED` is 0 or a write completion is pending: the host action has no move (spec 43 R119,
  U9). Raised by `masterWrite`. SAFE for claims about runs that go on; a bus that does it breaks duty R128. -/
  | masterWriteNotEnabled
  /-- MR while `RD_ARMED` is 0 or a read completion is pending: the host action has no move (spec 43 R121,
  U9). Raised by `masterRead`. SAFE in the same way. -/
  | masterReadNotEnabled
  /-- An event before boot step 5: no handler is served yet (spec 43 R117, 70 R154, R155; log 5). Raised by
  `nextTurn`. SAFE: the model stops where the spec gives no move. -/
  | eventNotDeliverable
  /-- A poll before boot step 5, or after a failed bring-up: the outer loop starts polling only after event delivery
  is enabled, and after a failure nothing can be observed (spec 70 R154, R155; log 5). Raised by `pollFlag`.
  SAFE: the model stops where the spec gives no move. -/
  | pollNotStarted
  /-- A boot step out of the order of spec 70 R154 (log 5). Raised by the boot actions. SAFE. -/
  | bootOutOfOrder
  deriving DecidableEq, Repr

/-- Why the model makes no claim. Only a HOST action raises one, never an instruction. -/
inductive Refusal where
  /-- An instruction that has no meaning yet. Nobody raises it: every instruction has its meaning. SAFE. -/
  | notModelled (mnemonic : String)
  /-- A master read of other than 3 bytes (spec 43 R121, U8, D29). Raised by `masterRead`. SAFE. -/
  | partialMasterRead (len : Nat)
  deriving DecidableEq, Repr

/-- What a step does next. -/
inductive Turn where
  /-- No external agent acts: the block holds its state (spec 60 R149, 43 R130). -/
  | idle
  /-- The block's step runs: this instruction, in this state. -/
  | run (i : Instr) (s : State)
  /-- A host action took place. -/
  | settled (o : Host.Outcome State Fault Refusal)

/-- The machine right after reset, that is after boot steps 1 and 2 (spec 10 R34, 70 R151, R154; logs 2 to 6). -/
def State.reset : State where
  ctrlState := .awaitingCommand
  errFlag := false
  wb := []
  wbEpoch := 0
  evtPort := 0b000#3
  wrCountPort := 0
  actions := []
  cmp := Config.cmpByte 0
  cmpEpoch := 1
  pulsePeriod := Config.ledPeriod
  pulseEnabled := true
  wrArmed := false
  rdArmed := false
  wrPend := none
  rdPend := false
  boot := .blockReset
  lastReply := none
  lastPoll := none
  schedule := []

end Sys2Proof.Machine
end

