-- ==== Sys2Proof/Machine/Ops.lean ====
section
/-! DEFINITION. The named operations: WB as memory, the byte access of the two address spaces, the working copy
of a step with its action list, the one error report the block has (it has no trap), and what the
external agents do with an action. -/

namespace Sys2Proof.Machine

/-- The byte WB lists at an address. An address that is not listed holds no determined byte. -/
def Memory.read : Memory → Nat → Option Byte
  | [], _ => none
  | (k, v) :: m, a => if k = a then some v else Memory.read m a

/-- Write one byte, keeping the addresses strictly rising. Index 3 and above do not exist (spec 20 R40). -/
def Memory.insert (a : Nat) (v : Byte) : Memory → Memory
  | [] => [(a, v)]
  | (k, u) :: m =>
    if a < k then (a, v) :: (k, u) :: m
    else if a = k then (a, v) :: m
    else (k, u) :: Memory.insert a v m

/-- The addresses from `lo` on are strictly rising and below 3. -/
def Memory.wfFrom : Nat → Memory → Bool
  | _, [] => true
  | lo, (k, _) :: m => decide (lo ≤ k) && decide (k < 3) && Memory.wfFrom (k + 1) m

/-- The canonical form of WB: addresses strictly rising, each an index 0, 1 or 2 (spec 20 R40). -/
def Memory.wf (m : Memory) : Bool := Memory.wfFrom 0 m

/-- MemRead(WB, a, 1) (spec 00 R16). A byte that nothing has written since WB was last left unspecified is a
free value (spec 10 R27, 43 R119; log 2). -/
def State.readWB (s : State) (a : Fin 3) : Byte :=
  (Memory.read s.wb a.val).getD (Config.wbByte s.wbEpoch a.val)

/-- MemWrite(WB, a, 1, v) (spec 00 R16): only the bus side's master write uses it (spec 20 R41). -/
def State.writeWB (s : State) (a : Fin 3) (v : Byte) : State :=
  { s with wb := Memory.insert a.val v s.wb }

/-- Leave WB unspecified: every byte becomes a fresh free value (spec 43 R119, 70 R151; log 2). -/
def State.drawWB (s : State) : State :=
  { s with wb := [], wbEpoch := s.wbEpoch + 1 }

/-- Leave CMP unspecified: it becomes a fresh free value (spec 10 R31, D14; log 3). -/
def State.drawCmp (s : State) : State :=
  { s with cmp := Config.cmpByte s.cmpEpoch, cmpEpoch := s.cmpEpoch + 1 }

/-- The pulse output sets its compare value (spec 43 R123). -/
def State.setCmp (s : State) (v : Byte) : State := { s with cmp := v }

/-- Set or clear WR_ARMED (spec 43 R120). -/
def State.setWrArmed (s : State) (b : Bool) : State := { s with wrArmed := b }

/-- Set or clear RD_ARMED (spec 43 R120). -/
def State.setRdArmed (s : State) (b : Bool) : State := { s with rdArmed := b }

/-- Set or clear the pending write completion (spec 43 R120). -/
def State.setWrPend (s : State) (p : Option Nat) : State := { s with wrPend := p }

/-- Set or clear the pending read completion (spec 43 R120). -/
def State.setRdPend (s : State) (b : Bool) : State := { s with rdPend := b }

/-- The boot sequence has come this far (spec 70 R154). -/
def State.setBoot (s : State) (b : BootStage) : State := { s with boot := b }

/-- The call an action stands for, with PWM_CHANNEL and FRAME_LEN filled in (spec 43 R118, D2). -/
def Action.call : Action → DriverCall
  | .apply v => .setCompareValue Config.pwmChannel v
  | .rearmWrite => .configureWriteBuffer Config.frameLen
  | .rearmRead => .configureReadBuffer Config.frameLen
  | .signalError => .errorSignal

/-- The effect of a call on its recipient (spec 43 R118, R120, R123). No rule depends on the channel
(spec 00 R12), the host keeps no length (spec 43 R120), re-arming clears nothing (D12), and the error
signal has no effect beyond ERR_FLAG (spec 60 R132). -/
def State.perform (s : State) : DriverCall → State
  | .setCompareValue _ v => s.setCmp v
  | .configureWriteBuffer _ => s.setWrArmed true
  | .configureReadBuffer _ => s.setRdArmed true
  | .errorSignal => s

/-- The external agents carry out an action list in order (spec 43 R118). -/
def State.carryOut (s : State) : List Action → State
  | [] => s
  | a :: as => State.carryOut (s.perform a.call) as

/-- The working copy of one step: CTRL_STATE and ERR_FLAG as they will be written, and the actions emitted so
far (spec 42 R91, 10 R33). -/
structure Work where
  ctrl : CtrlState
  err : Bool
  acts : List Action
  deriving DecidableEq, Repr

/-- `s <- CTRL_STATE`, with an empty action list (spec 42 R91). -/
def State.startWork (s : State) : Work := { ctrl := s.ctrlState, err := s.errFlag, acts := [] }

/-- `emit A` appends to the ordered action list (spec 00 R17). -/
def Work.emit (w : Work) (a : Action) : Work := { w with acts := w.acts ++ [a] }

/-- `s <- c` for the working control state (spec 42 R91). -/
def Work.goTo (w : Work) (c : CtrlState) : Work := { w with ctrl := c }

/-- ErrorMonitor.signal with its action: the block's only error report (spec 60 R131, R132, R135). The block
takes no trap: nothing is saved and control goes nowhere (spec 60 R141, R142). -/
def Work.reportError (w : Work) : Work := { w with err := true }.emit .signalError

/-- The state writes of a step, all at its end (spec 10 R33). -/
def State.writeBlock (s : State) (w : Work) : State :=
  { s with ctrlState := w.ctrl, errFlag := w.err, actions := w.acts }

/-- End of a step: its writes take effect, then its action list is carried out before any other event
(spec 42 R91, 43 R118, R129). -/
def State.commit (s : State) (w : Work) : State := (s.writeBlock w).carryOut w.acts

end Sys2Proof.Machine
end

