-- ==== Sys2Proof/Machine/Flags.lean ====
section
/-! DEFINITION. The block's status indications: STATUS and ERR_FLAG (spec 10 R26: it has no condition codes). -/

namespace Sys2Proof.Machine

/-- The one-bit encoding of CTRL_STATE (spec 10 R21). No rule depends on it. -/
def CtrlState.bit : CtrlState → BitVec 1
  | .awaitingCommand => 0#1
  | .commandReady => 1#1

/-- enc_status (spec 10 R23). -/
def encStatus : CtrlState → Byte
  | .awaitingCommand => Config.stsFail
  | .commandReady => Config.stsDone

/-- STATUS (spec 10 R23). -/
def State.status (s : State) : Byte := encStatus s.ctrlState

/-- ErrorMonitor.consume: the outer loop reads the flag, and nothing else changes (spec 60 R133). -/
def State.consumeFlag (s : State) : State := { s with lastPoll := some s.errFlag }

end Sys2Proof.Machine
end

