-- ==== Sys2Proof/Machine/Operands.lean ====
section
/-! DEFINITION. The operands of a step (spec 30 R58): the input port WR_COUNT and the bytes of WB, and the bytes
of RB that a master read returns. -/

namespace Sys2Proof.Machine

/-- The two address spaces (spec 20 R41). -/
inductive Space where
  | wb
  | rb
  deriving DecidableEq, Repr

/-- WR_COUNT, as the bus side presents it with the event (spec 10 R29). -/
def State.writeCount (s : State) : Nat := s.wrCountPort

/-- RB[a]: the two markers are hardwired and RB[1] is STATUS (spec 10 R28). -/
def State.readRB (s : State) (a : Fin 3) : Byte :=
  if a = Config.sopPos then Config.sopValue
  else if a = Config.payloadPos then s.status
  else Config.eopValue

/-- MemRead(space, a, 1) (spec 00 R16, 20 R41). -/
def State.memRead (s : State) : Space → Fin 3 → Byte
  | .wb, a => s.readWB a
  | .rb, a => s.readRB a

/-- The payload operand: WB[1], unmodified (spec 30 R60). -/
def State.payload (s : State) : Byte := s.memRead .wb Config.payloadPos

end Sys2Proof.Machine
end

