-- ==== Sys2Proof/Machine/PacketCodec.lean ====
section
/-! DEFINITION. The packet codec: VALIDATE and ENCODE_REPLY (spec 40). Both only read (spec 40 R70). -/

namespace Sys2Proof.Machine

/-- VALIDATE of the candidate of `n` bytes in WB (spec 40 R72). -/
def validate (n : Nat) (s : State) : FrameResult :=
  if n ≠ Config.frameLen then .invalid
  else if s.memRead .wb Config.sopPos ≠ Config.sopValue then .invalid
  else if s.memRead .wb Config.eopPos ≠ Config.eopValue then .invalid
  else .ok s.payload

/-- ENCODE_REPLY (spec 40 R79). -/
def encodeReply (c : CtrlState) : ReplyFrame :=
  { startMarker := Config.sopValue, status := encStatus c, endMarker := Config.eopValue }

/-- The three bytes of RB, read as one snapshot (spec 43 R121). -/
def State.replyBuffer (s : State) : ReplyFrame :=
  { startMarker := s.memRead .rb Config.sopPos
    status := s.memRead .rb Config.payloadPos
    endMarker := s.memRead .rb Config.eopPos }

end Sys2Proof.Machine
end

