-- ==== Sys2Proof/Machine/CommandExecutor.lean ====
section
/-! DEFINITION. The command executor: APPLY (spec 41). -/

namespace Sys2Proof.Machine

/-- APPLY: forward the payload to the pulse output, unmodified, every time (spec 41 R84, R85). -/
def Work.applyPayload (w : Work) (v : Byte) : Work := w.emit (.apply v)

end Sys2Proof.Machine
end

