-- ==== Sys2Proof/Machine/ProtocolController.lean ====
section
/-! DEFINITION. The protocol controller: the three parts of a step, STEP as spec 42 R91 writes it, and one meaning
per event word (spec 42 R103 to R110). -/

namespace Sys2Proof.Machine

/-- Part E, transport error (spec 42 R100). -/
def errorPart (w : Work) : Work := w.reportError

/-- What part W does with the received frame: accept it (spec 42 R95) or drop it (spec 42 R96). -/
def inspectFrame (s : State) (w : Work) : Work :=
  match validate s.writeCount s with
  | .ok v => (w.applyPayload v).goTo .commandReady
  | .invalid => w

/-- Part W without a transport error: inspect, then re-arm in every case (spec 42 R92, R99). -/
def writePart (s : State) (w : Work) : Work := (inspectFrame s w).emit .rearmWrite

/-- Part W after a transport error: no inspection; the re-arm stays unless P_ERR_GATES_ALL (spec 42 R101). -/
def writePartAfterError (gatesAll : Bool) (w : Work) : Work :=
  if gatesAll then w else w.emit .rearmWrite

/-- Part R, read completion (spec 42 R93, R97, R98). -/
def readPart (w : Work) : Work := (w.goTo .awaitingCommand).emit .rearmRead

/-- Part R after a transport error: runs unless P_ERR_GATES_ALL (spec 42 R102). -/
def readPartAfterError (gatesAll : Bool) (w : Work) : Work :=
  if gatesAll then w else readPart w

/-- STEP, line by line as spec 42 R91 writes it, for either value of P_ERR_GATES_ALL. -/
def stepWork (gatesAll : Bool) (e : EventWord) (s : State) : Work :=
  let w := s.startWork
  let gate := gatesAll && evtErr e
  let w := if evtErr e then errorPart w else w
  let w :=
    if evtWr e && !gate then
      let w := if evtErr e then w else inspectFrame s w
      w.emit .rearmWrite
    else w
  if evtRd e && !gate then (w.goTo .awaitingCommand).emit .rearmRead else w

/-- The state after STEP and its action list (spec 42 R91, 43 R118). -/
def stepEvent (gatesAll : Bool) (e : EventWord) (s : State) : State := s.commit (stepWork gatesAll e s)

/-- EV_NONE (spec 42 R103). -/
def execEvNone (s : State) : Host.Outcome State Fault Refusal := .next (s.commit s.startWork)

/-- EV_WR (spec 42 R104). -/
def execEvWr (s : State) : Host.Outcome State Fault Refusal :=
  .next (s.commit (writePart s s.startWork))

/-- EV_RD (spec 42 R105). -/
def execEvRd (s : State) : Host.Outcome State Fault Refusal :=
  .next (s.commit (readPart s.startWork))

/-- EV_WR_RD (spec 42 R106). -/
def execEvWrRd (s : State) : Host.Outcome State Fault Refusal :=
  .next (s.commit (readPart (writePart s s.startWork)))

/-- EV_ERR (spec 42 R107). -/
def execEvErr (s : State) : Host.Outcome State Fault Refusal :=
  .next (s.commit (errorPart s.startWork))

/-- EV_ERR_WR (spec 42 R108). -/
def execEvErrWr (s : State) : Host.Outcome State Fault Refusal :=
  .next (s.commit (writePartAfterError Config.pErrGatesAll (errorPart s.startWork)))

/-- EV_ERR_RD (spec 42 R109). -/
def execEvErrRd (s : State) : Host.Outcome State Fault Refusal :=
  .next (s.commit (readPartAfterError Config.pErrGatesAll (errorPart s.startWork)))

/-- EV_ERR_WR_RD (spec 42 R110). -/
def execEvErrWrRd (s : State) : Host.Outcome State Fault Refusal :=
  .next (s.commit (readPartAfterError Config.pErrGatesAll
    (writePartAfterError Config.pErrGatesAll (errorPart s.startWork))))

end Sys2Proof.Machine
end

