-- ==== Sys2Proof/Machine/Dispatch.lean ====
section
/-! DEFINITION. exec: one arm per event word, each a call of its meaning. -/

namespace Sys2Proof.Machine

def exec (i : Instr) (s : State) : Host.Outcome State Fault Refusal :=
  match i with
  | .evNone => Sys2Proof.Machine.execEvNone s
  | .evWr => Sys2Proof.Machine.execEvWr s
  | .evRd => Sys2Proof.Machine.execEvRd s
  | .evWrRd => Sys2Proof.Machine.execEvWrRd s
  | .evErr => Sys2Proof.Machine.execEvErr s
  | .evErrWr => Sys2Proof.Machine.execEvErrWr s
  | .evErrRd => Sys2Proof.Machine.execEvErrRd s
  | .evErrWrRd => Sys2Proof.Machine.execEvErrWrRd s

end Sys2Proof.Machine
end

