-- ==== Sys2Proof/Machine/HostActions.lean ====
section
/-! DEFINITION. The host actions that an execution interleaves with the block's steps (spec 43 section 2, 60 R133,
70 section 1), and the choice of the next turn. -/

namespace Sys2Proof.Machine

/-- The bytes of a master write go to the cells from index `i` on (spec 43 R119). -/
def fillWB : List Byte → Nat → Memory → Memory
  | [], _, m => m
  | b :: bs, i, m => fillWB bs (i + 1) (Memory.insert i b m)

/-- WB after a master write: the first `n` cells for `n <= 3`, any bytes for a longer one (spec 43 R119). -/
def State.receiveBytes (s : State) (bytes : List Byte) : State :=
  if bytes.length ≤ Config.frameLen then { s with wb := fillWB bytes 0 s.wb } else s.drawWB

/-- MW (spec 43 R119). -/
def masterWrite (bytes : List Byte) (s : State) : Host.Outcome State Fault Refusal :=
  if s.wrArmed && s.wrPend.isNone then
    .next (((s.receiveBytes bytes).setWrArmed false).setWrPend (some bytes.length))
  else .fault .masterWriteNotEnabled

/-- The master receives the reply (spec 43 R121). -/
def State.takeReply (s : State) : State := { s with lastReply := some s.replyBuffer }

/-- MR (spec 43 R121). Reads of other than 3 bytes are not specified (U8, D29). -/
def masterRead (len : Nat) (s : State) : Host.Outcome State Fault Refusal :=
  if len ≠ Config.frameLen then .refused (.partialMasterRead len)
  else if s.rdArmed && !s.rdPend then .next ((s.takeReply.setRdArmed false).setRdPend true)
  else .fault .masterReadNotEnabled

/-- RESET: the block's own state and nothing else; no action (spec 70 R151 to R153). -/
def State.resetBlock (s : State) : State :=
  { s.drawWB with ctrlState := .awaitingCommand, errFlag := false, actions := [] }

/-- RESET as a host action. As boot step 2 it also moves the boot sequence on (spec 70 R154). -/
def blockReset (s : State) : Host.Outcome State Fault Refusal :=
  .next (if s.boot = .broughtUp then s.resetBlock.setBoot .blockReset else s.resetBlock)

/-- No buffer is armed and nothing is pending (spec 70 R153, R154; log 5). -/
def State.disarm (s : State) : State :=
  { s with wrArmed := false, rdArmed := false, wrPend := none, rdPend := false }

/-- The pulse output comes up: its period and enable are set, its compare value is unspecified (spec 70 R154,
R153; log 3). -/
def State.startPulse (s : State) : State :=
  { s.drawCmp with pulsePeriod := Config.ledPeriod, pulseEnabled := true }

/-- consume() by the outer loop (spec 60 R133). It polls only after boot step 5 (spec 70 R154), and after a failed
bring-up nothing can be observed (spec 70 R155). DESIGN CHOICE (log 5): a poll at any other stage has no move. -/
def pollFlag (s : State) : Host.Outcome State Fault Refusal :=
  if s.boot = .running then .next s.consumeFlag else .fault .pollNotStarted

/-- Boot step 1, at startup or restart (spec 70 R154, R155). The block's own state is not touched.
DESIGN CHOICE (log 15): a FAILED bring-up leaves CMP, the period and the enable of the pulse output as they
were; the spec is silent on them. It clears the host's bookkeeping as a successful one does (log 5). -/
def bringUp (ok : Bool) (s : State) : Host.Outcome State Fault Refusal :=
  if ok then .next (s.disarm.startPulse.setBoot .broughtUp) else .next (s.disarm.setBoot .failed)

/-- Boot step 3: both buffers are armed by the same calls a re-arm makes (spec 70 R154). -/
def armBuffers (s : State) : Host.Outcome State Fault Refusal :=
  if s.boot = .blockReset then
    .next (((s.disarm.perform (.configureWriteBuffer Config.frameLen)).perform
      (.configureReadBuffer Config.frameLen)).setBoot .armed)
  else .fault .bootOutOfOrder

/-- Boot step 4 (spec 70 R154, 43 R117). -/
def registerHandler (s : State) : Host.Outcome State Fault Refusal :=
  if s.boot = .armed then .next (s.setBoot .registered) else .fault .bootOutOfOrder

/-- Boot step 5 (spec 70 R154). -/
def enableEvents (s : State) : Host.Outcome State Fault Refusal :=
  if s.boot = .registered then .next (s.setBoot .running) else .fault .bootOutOfOrder

/-- Event delivery before the block's step: the ports take the word and the count, and the pending
completions the word reports are cleared (spec 43 R122, R120). DESIGN CHOICE (log 16): a word with ERR leaves the
armed bits alone; spec 70 R162 leaves open whether the bus side drops them because of the error. -/
def State.present (s : State) (e : EventWord) (n : Nat) : State :=
  { s with
    evtPort := e
    wrCountPort := n
    wrPend := if evtWr e then none else s.wrPend
    rdPend := if evtRd e then false else s.rdPend }

/-- What remains for the external agents to do. -/
def State.setSchedule (s : State) (acts : List HostAct) : State := { s with schedule := acts }

/-- The next atomic event of the execution (spec 20 R48), taken from the schedule. -/
def nextTurn (s : State) : Turn :=
  match s.schedule with
  | [] => .idle
  | act :: rest =>
    let s := s.setSchedule rest
    match act with
    | .event e n =>
      if s.boot = .running then .run (decodeEvent (s.present e n).evtPort) (s.present e n)
      else .settled (.fault .eventNotDeliverable)
    | .masterWrite bytes => .settled (masterWrite bytes s)
    | .masterRead len => .settled (masterRead len s)
    | .consume => .settled (pollFlag s)
    | .reset => .settled (blockReset s)
    | .bringUp ok => .settled (bringUp ok s)
    | .armBuffers => .settled (armBuffers s)
    | .registerHandler => .settled (registerHandler s)
    | .enableEvents => .settled (enableEvents s)

/-- `s` with events enabled and one event at the head of the schedule; its count is that of the pending write,
or 0 (spec 43 R122, 30 R67; log 1). -/
def State.placeEvent (s : State) (e : EventWord) : State :=
  { s with boot := .running, schedule := .event e (s.wrPend.getD 0) :: s.schedule }

end Sys2Proof.Machine
end

