-- ==== Sys2Proof/Machine/Step.lean ====
section
/-! DEFINITION. One atomic event of the execution (spec 20 R48): a step of the block for a delivered event word,
a host action, or nothing. -/

namespace Sys2Proof.Machine

/-- The next atomic event. -/
def step (s : State) : Host.Outcome State Fault Refusal :=
  match nextTurn s with
  | .idle => .next s
  | .run i t => exec i t
  | .settled o => o

/-- `s` about to receive the event word `w` (the port has 3 bits; log 1). -/
def State.withFetchWord (s : State) (_nbits w : Nat) : State := s.placeEvent (BitVec.ofNat 3 w)

end Sys2Proof.Machine
end

