-- ==== Sys2Proof/Safety.lean ====
section
/-! DEFINITION. What claims are stated in: what the next turn is, the host's duties (spec 43 section 3), and the
invariants of the machine. -/

namespace Sys2Proof.Machine

/-- The event word and count the next turn delivers to the block, if it delivers one (spec 43 R122). -/
def eventNow (s : State) : Option (EventWord × Nat) :=
  match s.schedule with
  | .event e n :: _ => if s.boot = .running then some (e, n) else none
  | _ => none

/-- The payload the word `e` with count `n` makes the block accept: part W inspects the frame only without a
transport error (spec 42 R95, R101). -/
def acceptedPayload (e : EventWord) (n : Nat) (s : State) : Option Byte :=
  if evtWr e && !evtErr e then
    match validate n s with
    | .ok v => some v
    | .invalid => none
  else none

/-- The next turn is a step that accepts a frame (spec 42 R95). -/
def acceptsNow (s : State) : Bool :=
  match eventNow s with
  | some (e, n) => (acceptedPayload e n s).isSome
  | none => false

/-- The next turn is a step whose read-completion part runs (spec 42 R91, R93). -/
def readsNow (s : State) : Bool :=
  match eventNow s with
  | some (e, _) => evtRd e && !(Config.pErrGatesAll && evtErr e)
  | none => false

/-- The next turn is a step with EVT[2] = 1 (spec 42 R100). -/
def errsNow (s : State) : Bool :=
  match eventNow s with
  | some (e, _) => evtErr e
  | none => false

/-- The next turn is RESET (spec 70 R151). -/
def resetsNow (s : State) : Bool :=
  match s.schedule with
  | .reset :: _ => true
  | _ => false

/-- Every byte of WB has been written since WB was last left unspecified. -/
def allWritten (m : Memory) : Bool :=
  (Memory.read m 0).isSome && (Memory.read m 1).isSome && (Memory.read m 2).isSome

/-- The duties on an event delivery: R124 and R126 (the count of a completed write, unless ERR), R127 (the three
bytes are in WB), R125 (a completed read). -/
def eventDuties (s : State) (e : EventWord) (n : Nat) : Bool :=
  (!(evtWr e && !evtErr e) || (decide (s.wrPend = some n) && (decide (n ≠ 3) || allWritten s.wb)))
    && (!evtRd e || s.rdPend)

/-- The next turn meets the host's duties (spec 43 R124 to R128) and the boot order, the start of the polling
included (spec 70 R154; log 5). -/
def dutiful (s : State) : Bool :=
  match s.schedule with
  | [] => true
  | .event e n :: _ => decide (s.boot = .running) && eventDuties s e n
  | .masterWrite _ :: _ => s.wrArmed && s.wrPend.isNone
  | .masterRead len :: _ => decide (len = 3) && s.rdArmed && !s.rdPend
  | .consume :: _ => decide (s.boot = .running)
  | .reset :: _ => true
  | .bringUp _ :: _ => true
  | .armBuffers :: _ => decide (s.boot = .blockReset)
  | .registerHandler :: _ => decide (s.boot = .armed)
  | .enableEvents :: _ => decide (s.boot = .registered)

/-- A buffer is with the bus side, or the bus side owes its completion, never both and never neither, from boot
step 3 on; before it neither holds (spec 43 R120, 70 R154). DESIGN CHOICE (log 16): "never neither" rests on the
model having no turn in which the bus side drops an armed buffer because of a transport error (spec 70 R162). -/
def buffersOwned (s : State) : Bool :=
  match s.boot with
  | .failed | .broughtUp | .blockReset => !s.wrArmed && s.wrPend.isNone && !s.rdArmed && !s.rdPend
  | .armed | .registered | .running => (s.wrArmed != s.wrPend.isSome) && (s.rdArmed != s.rdPend)

/-- The invariant of the machine: WB has its canonical form and the buffers are owned. -/
def machineInv (s : State) : Bool := s.wb.wf && buffersOwned s

/-- A completed 3-byte write that is not yet reported has all its bytes in WB (spec 43 R119, R127). -/
def frameHeld (s : State) : Bool := decide (s.wrPend ≠ some 3) || allWritten s.wb

/-- Between turn `i` and turn `k` of the run from `s`, no turn satisfies `p`. -/
def NoneBetween (p : State → Bool) (s : State) (i k : Nat) : Prop :=
  ∀ j, i ≤ j → j < k → ∀ sj, Sys2Proof.core.run j s = .next sj → p sj = false

/-- Some turn before turn `k` of the run from `s` satisfies `p`, and none after it satisfies `q`. -/
def LastBefore (p q : State → Bool) (s : State) (k : Nat) : Prop :=
  ∃ i si, i < k ∧ Sys2Proof.core.run i s = .next si ∧ p si = true ∧ NoneBetween q s (i + 1) k

end Sys2Proof.Machine
end

