-- ==== Sys2Proof/Certificates/Slice0/Obligations.lean ====
section
/-! DEFINITION. The statements for the provers. None is about a program: each holds for every state its hypotheses
admit, reachable or not. -/

open Sys2Proof Sys2Proof.Machine

/-! Parameters, encoding -/

/-- R7 to R10: the markers' values, the frame length, the byte positions and the status codes; that an accepted
frame carries them, and that every reply is the three bytes of RB at those positions and carries them. -/
def Obligations.FrameConstantsInBothDirections : Prop :=
  Config.sopValue = 0x01#8 ∧ Config.eopValue = 0x17#8 ∧ Config.frameLen = 3 ∧
  Config.sopPos = 0 ∧ Config.payloadPos = 1 ∧ Config.eopPos = 2 ∧
  (∀ (n : Nat) (s : State) (v : Byte), validate n s = .ok v →
    n = 3 ∧ s.readWB 0 = 0x01#8 ∧ s.readWB 2 = 0x17#8) ∧
  (∀ s : State, s.replyBuffer.startMarker = 0x01#8 ∧ s.replyBuffer.endMarker = 0x17#8) ∧
  (∀ s : State, s.replyBuffer =
    ⟨s.readRB Config.sopPos, s.readRB Config.payloadPos, s.readRB Config.eopPos⟩) ∧
  encStatus .commandReady = 0x00#8 ∧ encStatus .awaitingCommand = 0xFF#8

/-- The event word's bits (30_encoding.md section 2): WR is bit 0, RD bit 1, ERR bit 2. -/
def Obligations.EventWordBitPlaces : Prop :=
  ∀ e : EventWord,
    e.toNat = (if evtErr e then 4 else 0) + (if evtRd e then 2 else 0) + (if evtWr e then 1 else 0)

/-- A few rows of the opcode map, written out bit by bit as raw bytes. That a raw word is one byte is the model's
choice (log 14). -/
def Obligations.OpcodeMapWords : Prop :=
  decodeBytes [0b00000000#8] = .ok .evNone ∧ decodeBytes [0b00000001#8] = .ok .evWr ∧
  decodeBytes [0b00000011#8] = .ok .evWrRd ∧ decodeBytes [0b00000110#8] = .ok .evErrRd

/-- R66: every 3-bit value selects exactly one row; nothing but the word enters the decoding. -/
def Obligations.DecodingSelectsExactlyOneRow : Prop :=
  ∀ (e : EventWord) (i : Instr), decodeEvent e = i ↔ encode i = e

/-- Decode of encode is the instruction, from the 3-bit port and from a raw byte. That a raw word is one byte is
the model's choice (log 14). -/
def Obligations.DecodeOfEncode : Prop :=
  ∀ i : Instr, i.wf = true →
    decodeEvent (encode i) = i ∧ decodeBytes [(encode i).setWidth 8] = .ok i

/-- A table word decodes to an instruction exactly when it is that instruction's encoding, in one byte. -/
def Obligations.TableWordDecodesIffItIsTheEncoding : Prop :=
  ∀ (nbits w : Nat) (i : Instr),
    decodeTableWord nbits w = some i ↔
      1 ≤ nbits ∧ nbits ≤ 8 ∧ w < 2 ^ nbits ∧ w = (encode i).toNat

/-- Raw bytes that are no event word are rejected by name, and only those. -/
def Obligations.RawBytesRejectedByName : Prop :=
  decodeBytes [] = .error .noWord ∧
  (∀ (b c : Byte) (bs : List Byte), decodeBytes (b :: c :: bs) = .error .continuationWord) ∧
  (∀ b : Byte, 8 ≤ b.toNat → decodeBytes [b] = .error .bitsAboveEvent) ∧
  (∀ b : Byte, b.toNat < 8 → ∃ i, decodeBytes [b] = .ok i ∧ (encode i).toNat = b.toNat)

/-! Status and reply -/

/-- R23: STATUS is a function of CTRL_STATE and takes no third value. -/
def Obligations.StatusFollowsControlState : Prop :=
  ∀ s : State,
    (s.ctrlState = .awaitingCommand → s.status = 0xFF#8) ∧
    (s.ctrlState = .commandReady → s.status = 0x00#8) ∧
    (s.status = 0x00#8 ∨ s.status = 0xFF#8)

/-- R28, R79: the reply buffer's three bytes, and ENCODE_REPLY. -/
def Obligations.ReplyBufferLayout : Prop :=
  (∀ s : State, s.readRB 0 = 0x01#8 ∧ s.readRB 1 = s.status ∧ s.readRB 2 = 0x17#8 ∧
    s.replyBuffer = encodeReply s.ctrlState) ∧
  encodeReply .awaitingCommand = ⟨0x01#8, 0xFF#8, 0x17#8⟩ ∧
  encodeReply .commandReady = ⟨0x01#8, 0x00#8, 0x17#8⟩

/-- R65: exactly two replies can be produced, and both can. -/
def Obligations.ExactlyTwoReplies : Prop :=
  (∀ s : State, s.replyBuffer = ⟨0x01#8, 0x00#8, 0x17#8⟩ ∨ s.replyBuffer = ⟨0x01#8, 0xFF#8, 0x17#8⟩) ∧
  (∃ s : State, s.replyBuffer = ⟨0x01#8, 0x00#8, 0x17#8⟩) ∧
  (∃ s : State, s.replyBuffer = ⟨0x01#8, 0xFF#8, 0x17#8⟩)

/-! Packet codec and command executor -/

/-- R72, R75, R76, R77: when VALIDATE succeeds and with what, for every count, buffer and payload. -/
def Obligations.ValidateSucceedsIffFramed : Prop :=
  (∀ (n : Nat) (s : State) (v : Byte), validate n s = .ok v ↔
    n = 3 ∧ s.readWB 0 = 0x01#8 ∧ s.readWB 2 = 0x17#8 ∧ v = s.readWB 1) ∧
  (∀ (n : Nat) (s : State), validate n s = .invalid ↔
    n ≠ 3 ∨ s.readWB 0 ≠ 0x01#8 ∨ s.readWB 2 ≠ 0x17#8)

/-- R73, R74: another length is Invalid whatever WB holds; at length 3 only WB's bytes matter. -/
def Obligations.ValidateReadsBufferOnlyAtFrameLength : Prop :=
  (∀ (n : Nat) (s : State), n ≠ 3 → validate n s = .invalid) ∧
  (∀ (n : Nat) (s t : State), (∀ a, s.readWB a = t.readWB a) → validate n s = validate n t)

/-- R84, R123: APPLY emits its payload unmodified, and the pulse output takes it as its compare value. -/
def Obligations.ApplyForwardsThePayload : Prop :=
  (∀ (w : Work) (v : Byte), w.applyPayload v = { w with acts := w.acts ++ [.apply v] }) ∧
  (∀ (s : State) (v : Byte), s.perform (Action.call (.apply v)) = { s with cmp := v })

/-- R118: the effect of each action on its recipient, and that a step's list is carried out in its order. -/
def Obligations.ActionListIsCarriedOutInOrder : Prop :=
  (∀ (s : State) (v : Byte), s.carryOut [.apply v] = { s with cmp := v }) ∧
  (∀ s : State, s.carryOut [.rearmWrite] = { s with wrArmed := true }) ∧
  (∀ s : State, s.carryOut [.rearmRead] = { s with rdArmed := true }) ∧
  (∀ s : State, s.carryOut [.signalError] = s) ∧
  (∀ (s : State) (l m : List Action), s.carryOut (l ++ m) = (s.carryOut l).carryOut m) ∧
  (∀ v : Byte, Action.call (.apply v) = .setCompareValue Config.pwmChannel v) ∧
  Action.call .rearmWrite = .configureWriteBuffer 3 ∧ Action.call .rearmRead = .configureReadBuffer 3 ∧
  (∀ (i : Instr) (s t : State), exec i s = .next t →
    ∃ w : Work, t = (s.writeBlock w).carryOut w.acts ∧ t.actions = w.acts)

/-! One result per event word: each is also its completion statement and its whole frame -/

/-- R103. -/
def Obligations.EvNoneHasNoEffect : Prop :=
  ∀ s : State, exec .evNone s = .next { s with actions := [] }

/-- R104: accepted, dropped. -/
def Obligations.EvWrAcceptsOrDrops : Prop :=
  (∀ (s : State) (v : Byte), validate s.wrCountPort s = .ok v →
    exec .evWr s = .next { s with
      ctrlState := .commandReady, actions := [.apply v, .rearmWrite], cmp := v, wrArmed := true }) ∧
  (∀ s : State, validate s.wrCountPort s = .invalid →
    exec .evWr s = .next { s with actions := [.rearmWrite], wrArmed := true })

/-- R105. -/
def Obligations.EvRdReturnsToAwaiting : Prop :=
  ∀ s : State, exec .evRd s = .next { s with
    ctrlState := .awaitingCommand, actions := [.rearmRead], rdArmed := true }

/-- R106: both cases end in AwaitingCommand. -/
def Obligations.EvWrRdAppliesThenReturnsToAwaiting : Prop :=
  (∀ (s : State) (v : Byte), validate s.wrCountPort s = .ok v →
    exec .evWrRd s = .next { s with
      ctrlState := .awaitingCommand, actions := [.apply v, .rearmWrite, .rearmRead], cmp := v,
      wrArmed := true, rdArmed := true }) ∧
  (∀ s : State, validate s.wrCountPort s = .invalid →
    exec .evWrRd s = .next { s with
      ctrlState := .awaitingCommand, actions := [.rearmWrite, .rearmRead],
      wrArmed := true, rdArmed := true })

/-- R107. -/
def Obligations.EvErrSetsTheFlag : Prop :=
  ∀ s : State, exec .evErr s = .next { s with errFlag := true, actions := [.signalError] }

/-- R108, for this hardware's P_ERR_GATES_ALL and for the other value. -/
def Obligations.EvErrWrRearmsWithoutInspection : Prop :=
  ∀ s : State,
    exec .evErrWr s = .next { s with
      errFlag := true, actions := [.signalError, .rearmWrite], wrArmed := true } ∧
    stepEvent true 0b101#3 s = { s with errFlag := true, actions := [.signalError] }

/-- R109, for this hardware's P_ERR_GATES_ALL and for the other value. -/
def Obligations.EvErrRdReturnsToAwaiting : Prop :=
  ∀ s : State,
    exec .evErrRd s = .next { s with
      ctrlState := .awaitingCommand, errFlag := true, actions := [.signalError, .rearmRead],
      rdArmed := true } ∧
    stepEvent true 0b110#3 s = { s with errFlag := true, actions := [.signalError] }

/-- R110, for this hardware's P_ERR_GATES_ALL and for the other value. -/
def Obligations.EvErrWrRdRearmsBothWithoutInspection : Prop :=
  ∀ s : State,
    exec .evErrWrRd s = .next { s with
      ctrlState := .awaitingCommand, errFlag := true,
      actions := [.signalError, .rearmWrite, .rearmRead], wrArmed := true, rdArmed := true } ∧
    stepEvent true 0b111#3 s = { s with errFlag := true, actions := [.signalError] }

/-! STEP over all event words -/

/-- R91: each instruction is STEP of its event word, with this hardware's parameter. -/
def Obligations.EveryWordRunsStep : Prop :=
  ∀ (i : Instr) (s : State), exec i s = .next (stepEvent Config.pErrGatesAll (encode i) s)

/-- R111: the complete transition function, for all words, frames and states. -/
def Obligations.CompleteTransitionTable : Prop :=
  ∀ (e : EventWord) (s : State), ∃ t, exec (decodeEvent e) s = .next t ∧
    t.ctrlState =
      (if evtRd e then .awaitingCommand
       else if (acceptedPayload e s.wrCountPort s).isSome then .commandReady else s.ctrlState) ∧
    t.errFlag = (s.errFlag || evtErr e) ∧
    t.actions =
      (if evtErr e then [.signalError] else []) ++
      ((acceptedPayload e s.wrCountPort s).toList.map .apply) ++
      (if evtWr e then [.rearmWrite] else []) ++ (if evtRd e then [.rearmRead] else [])

/-- R13: what the parameter selects, for both values. -/
def Obligations.ErrorGatingParameter : Prop :=
  Config.pErrGatesAll = false ∧
  (∀ (e : EventWord) (s : State), evtErr e = true →
    stepEvent true e s = { s with errFlag := true, actions := [.signalError] } ∧
    stepEvent false e s = { s with
      ctrlState := if evtRd e then .awaitingCommand else s.ctrlState
      errFlag := true
      wrArmed := s.wrArmed || evtWr e
      rdArmed := s.rdArmed || evtRd e
      actions := [.signalError] ++ (if evtWr e then [.rearmWrite] else [])
        ++ (if evtRd e then [.rearmRead] else []) }) ∧
  (∀ (e : EventWord) (s : State), evtErr e = false → stepEvent true e s = stepEvent false e s)

/-- R94: a word with both completions is its write part followed by its read part, whatever the frame: the state
is that of the two words one after the other, the action list the two lists joined. -/
def Obligations.WritePartRunsBeforeReadPart : Prop :=
  (∀ s t u : State, exec .evWr s = .next t → exec .evRd t = .next u →
    exec .evWrRd s = .next { u with actions := t.actions ++ u.actions }) ∧
  (∀ s t u : State, exec .evErrWr s = .next t → exec .evRd t = .next u →
    exec .evErrWrRd s = .next { u with actions := t.actions ++ u.actions }) ∧
  (∀ (e : EventWord) (s : State), evtWr e = true → evtRd e = true →
    ∃ t, exec (decodeEvent e) s = .next t ∧ t.ctrlState = .awaitingCommand)

/-- 60_exceptions.md section 3: the error part comes first in every word that has it (its place is the spec's own
choice, decision D15). -/
def Obligations.ErrorPartRunsFirst : Prop :=
  (∀ s t u : State, exec .evErr s = .next t → exec .evRd t = .next u →
    exec .evErrRd s = .next { u with actions := t.actions ++ u.actions }) ∧
  (∀ (e : EventWord) (s : State), evtErr e = true →
    ∃ t, exec (decodeEvent e) s = .next t ∧ t.actions.head? = some .signalError)

/-- R95 and R77: a framed payload, any of the 256, is applied from either state, and the status becomes Done. -/
def Obligations.FramedPayloadIsAppliedAndDone : Prop :=
  ∀ s : State, s.wrCountPort = 3 → s.readWB 0 = 0x01#8 → s.readWB 2 = 0x17#8 →
    ∃ t, exec .evWr s = .next t ∧ t.ctrlState = .commandReady ∧ t.status = 0x00#8 ∧
      t.cmp = s.readWB 1 ∧ t.actions = [.apply (s.readWB 1), .rearmWrite]

/-- R64, R96: a candidate that is not accepted raises no fault, sets no flag, and leaves the control state and the
pulse output as they were. -/
def Obligations.DroppedFrameChangesNothing : Prop :=
  ∀ s : State, (s.wrCountPort ≠ 3 ∨ s.readWB 0 ≠ 0x01#8 ∨ s.readWB 2 ≠ 0x17#8) →
    (∃ t, exec .evWr s = .next t ∧ t.ctrlState = s.ctrlState ∧ t.errFlag = s.errFlag ∧
      t.cmp = s.cmp ∧ t.actions = [.rearmWrite]) ∧
    (∃ t, exec .evWrRd s = .next t ∧ t.errFlag = s.errFlag ∧ t.cmp = s.cmp ∧
      t.actions = [.rearmWrite, .rearmRead])

/-- R97, R98: after any word with RD the status is Pending/Fail, the read buffer is armed as the last action, and
the reply it presents is `01 FF 17`. -/
def Obligations.ReadCompletionResetsTheStatus : Prop :=
  ∀ (e : EventWord) (s : State), evtRd e = true →
    ∃ t, exec (decodeEvent e) s = .next t ∧ t.ctrlState = .awaitingCommand ∧ t.status = 0xFF#8 ∧
      t.replyBuffer = ⟨0x01#8, 0xFF#8, 0x17#8⟩ ∧ t.rdArmed = true ∧
      t.actions.getLast? = some .rearmRead

/-- R99: RearmWrite is emitted exactly once by every word with WR, and by no other. -/
def Obligations.WriteRearmedExactlyWhenWritten : Prop :=
  ∀ (e : EventWord) (s : State), ∃ t, exec (decodeEvent e) s = .next t ∧
    t.actions.count .rearmWrite = (if evtWr e then 1 else 0) ∧
    t.wrArmed = (s.wrArmed || evtWr e)

/-- R100, R131, R132: every word with ERR sets the flag and emits SignalError once, whether or not the flag was
set; no other word does either. -/
def Obligations.ErrorIsRecordedInEveryWord : Prop :=
  ∀ (e : EventWord) (s : State), ∃ t, exec (decodeEvent e) s = .next t ∧
    t.errFlag = (evtErr e || s.errFlag) ∧
    t.actions.count .signalError = (if evtErr e then 1 else 0) ∧
    (evtErr e = true → evtRd e = false → t.ctrlState = s.ctrlState)

/-- R101: with ERR the frame is not inspected: no Apply, CMP and (without RD) the control state unchanged, the
write re-armed, and the outcome the same for every buffer and count. -/
def Obligations.ErrorSuppressesInspection : Prop :=
  ∀ (e : EventWord) (s : State), evtErr e = true → evtWr e = true →
    ∃ t, exec (decodeEvent e) s = .next t ∧ t.cmp = s.cmp ∧
      (∀ v, .apply v ∉ t.actions) ∧ .rearmWrite ∈ t.actions ∧
      (evtRd e = false → t.ctrlState = s.ctrlState) ∧
      (∀ (m : Memory) (k n : Nat),
        exec (decodeEvent e) { s with wb := m, wbEpoch := k, wrCountPort := n } =
          .next { t with wb := m, wbEpoch := k, wrCountPort := n })

/-- R102: with ERR the read part still runs; with the other parameter value it does not. -/
def Obligations.ErrorKeepsTheReadPart : Prop :=
  ∀ (e : EventWord) (s : State), evtErr e = true → evtRd e = true →
    (∃ t, exec (decodeEvent e) s = .next t ∧ t.ctrlState = .awaitingCommand ∧ .rearmRead ∈ t.actions) ∧
    (stepEvent true e s).ctrlState = s.ctrlState ∧ .rearmRead ∉ (stepEvent true e s).actions

/-- R85: one Apply per accepted frame and none otherwise, for every word, whatever CMP held; and a second
application of the same frame changes nothing more. -/
def Obligations.OneApplyPerAcceptedFrame : Prop :=
  (∀ (e : EventWord) (s : State), ∃ t, exec (decodeEvent e) s = .next t ∧
    (∀ v, t.actions.count (.apply v) =
      if acceptedPayload e s.wrCountPort s = some v then 1 else 0) ∧
    t.cmp = (acceptedPayload e s.wrCountPort s).getD s.cmp) ∧
  (∀ s t : State, exec .evWr s = .next t → exec .evWr t = .next t)

/-- R143: with the error flag set the block handles every word as it does without. -/
def Obligations.ErrorFlagDoesNotStopTheBlock : Prop :=
  ∀ (i : Instr) (s : State), ∃ t, exec i s = .next t ∧
    exec i { s with errFlag := true } = .next { t with errFlag := true }

/-! Frames -/

/-- What no event word changes: every byte of WB (R27), the input ports (R29), the pending completions (R120) and
the pulse output's period and enable (R86); and of the model's own form of the rest, the draw numbers, the boot
progress, what others have read and the schedule (logs 1, 2, 3, 5, 6). -/
def Obligations.FrameOfEveryWord : Prop :=
  ∀ (i : Instr) (s t : State), exec i s = .next t →
    (∀ a, t.readWB a = s.readWB a) ∧ t.wb = s.wb ∧ t.wbEpoch = s.wbEpoch ∧
    t.evtPort = s.evtPort ∧ t.wrCountPort = s.wrCountPort ∧ t.cmpEpoch = s.cmpEpoch ∧
    t.pulsePeriod = s.pulsePeriod ∧ t.pulseEnabled = s.pulseEnabled ∧
    t.wrPend = s.wrPend ∧ t.rdPend = s.rdPend ∧ t.boot = s.boot ∧
    t.lastReply = s.lastReply ∧ t.lastPoll = s.lastPoll ∧ t.schedule = s.schedule

/-- What each shape of event word leaves unchanged of the registers some word writes. -/
def Obligations.FrameOfWrittenRegisters : Prop :=
  ∀ (i : Instr) (s t : State), exec i s = .next t →
    (i = .evNone ∨ i = .evErr ∨ i = .evErrWr → t.ctrlState = s.ctrlState) ∧
    (i = .evNone ∨ i = .evWr ∨ i = .evRd ∨ i = .evWrRd → t.errFlag = s.errFlag) ∧
    (i ≠ .evWr → i ≠ .evWrRd → t.cmp = s.cmp) ∧
    (i = .evNone ∨ i = .evRd ∨ i = .evErr ∨ i = .evErrRd → t.wrArmed = s.wrArmed) ∧
    (i = .evNone ∨ i = .evWr ∨ i = .evErr ∨ i = .evErrWr → t.rdArmed = s.rdArmed)

/-! One atomic event of the execution -/

/-- R117, R122: a delivered event word runs exec of its decoding, on the state whose ports hold the word and its
count, whose reported completions are cleared, and whose schedule has moved on. -/
def Obligations.StepRunsTheDeliveredInstruction : Prop :=
  ∀ (s : State) (e : EventWord) (n : Nat) (rest : List HostAct),
    s.boot = .running → s.schedule = .event e n :: rest →
    (decodeEvent e).wf = true ∧
    step s = exec (decodeEvent e) { s with
      schedule := rest, evtPort := e, wrCountPort := n,
      wrPend := if evtWr e then none else s.wrPend,
      rdPend := if evtRd e then false else s.rdPend }

/-- The host's placing of an instruction: the next step runs it, with the pending write's count or 0. -/
def Obligations.PlacedWordIsTheNextInstruction : Prop :=
  ∀ (s : State) (i : Instr) (nbits : Nat),
    step (s.withFetchWord nbits (encode i).toNat) = exec i { s with
      boot := .running, evtPort := encode i, wrCountPort := s.wrPend.getD 0,
      wrPend := if evtWr (encode i) then none else s.wrPend,
      rdPend := if evtRd (encode i) then false else s.rdPend }

/-- R149 and R130: without an event the machine holds its state and produces no action. -/
def Obligations.IdleMachineHoldsItsState : Prop :=
  ∀ s : State, s.schedule = [] → step s = .next s

/-- Log 5 (the model's form of 70_reset_and_hazards.md R154 and R155): an event or a poll before boot step 5 has no
move. After a failed bring-up nothing but a new bring-up ends that, no turn lets the master or the outer loop
observe anything, and a block at its reset values stays at them. -/
def Obligations.NoEventBeforeBootCompletes : Prop :=
  (∀ (s : State) (e : EventWord) (n : Nat) (rest : List HostAct),
    s.boot ≠ .running → s.schedule = .event e n :: rest → step s = .fault .eventNotDeliverable) ∧
  (∀ (s : State) (rest : List HostAct),
    s.boot ≠ .running → s.schedule = .consume :: rest → step s = .fault .pollNotStarted) ∧
  (∀ s t : State, s.boot = .failed → step s = .next t →
    (∀ ok rest, s.schedule ≠ .bringUp ok :: rest) → t.boot = .failed) ∧
  (∀ s t : State, s.boot = .failed → machineInv s = true → step s = .next t →
    t.lastReply = s.lastReply ∧ t.lastPoll = s.lastPoll ∧
    (s.ctrlState = .awaitingCommand → t.ctrlState = .awaitingCommand) ∧
    (s.errFlag = false → t.errFlag = false))

/-- R119: MW is enabled only while WR_ARMED is 1 and no write completion is pending. A write of n <= 3 bytes then
fills the first n cells and keeps the others, a longer one leaves any bytes; the write is pending with its
count and the buffer is not armed. Nothing else changes. "Any bytes" are free values (log 2). -/
def Obligations.MasterWriteFillsTheFirstCells : Prop :=
  ∀ (s : State) (bytes : List Byte) (rest : List HostAct), s.schedule = .masterWrite bytes :: rest →
    (s.wrArmed = true ∧ s.wrPend = none → ∃ t, step s = .next t ∧
      (bytes.length ≤ 3 → ∀ a : Fin 3, t.readWB a = (bytes[a.val]?).getD (s.readWB a)) ∧
      (3 < bytes.length → ∀ a : Fin 3, t.readWB a = Config.wbByte (s.wbEpoch + 1) a.val) ∧
      t = { s with wb := t.wb, wbEpoch := t.wbEpoch, wrArmed := false,
                   wrPend := some bytes.length, schedule := rest }) ∧
    (¬(s.wrArmed = true ∧ s.wrPend = none) → ∀ t, step s ≠ .next t)

/-- R121: MR is enabled only while RD_ARMED is 1 and no read completion is pending. It then returns the reply as
one snapshot and changes no state of the block. What it returned is kept in lastReply (log 6). -/
def Obligations.MasterReadReturnsTheReply : Prop :=
  ∀ (s : State) (rest : List HostAct), s.schedule = .masterRead 3 :: rest →
    (s.rdArmed = true ∧ s.rdPend = false → step s = .next { s with
      lastReply := some (encodeReply s.ctrlState), rdArmed := false, rdPend := true, schedule := rest }) ∧
    (¬(s.rdArmed = true ∧ s.rdPend = false) → ∀ t, step s ≠ .next t)

/-- U8, U9 of 93_implementation_defined.md, in the model's form (log 10): the transactions that have no move stop by
name, and exactly those; a master read that completes is one of 3 bytes. -/
def Obligations.TransactionsWithoutAMoveStop : Prop :=
  (∀ (s : State) (bytes : List Byte) (rest : List HostAct), s.schedule = .masterWrite bytes :: rest →
    (step s = .fault .masterWriteNotEnabled ↔ ¬(s.wrArmed = true ∧ s.wrPend = none))) ∧
  (∀ (s : State) (rest : List HostAct), s.schedule = .masterRead 3 :: rest →
    (step s = .fault .masterReadNotEnabled ↔ ¬(s.rdArmed = true ∧ s.rdPend = false))) ∧
  (∀ (s : State) (len : Nat) (rest : List HostAct), s.schedule = .masterRead len :: rest → len ≠ 3 →
    step s = .refused (.partialMasterRead len)) ∧
  (∀ (len : Nat) (s t : State), masterRead len s = .next t → len = 3)

/-- R133: consume() returns ERR_FLAG and does not change it, nor anything else of the machine; once the flag is
set, every poll before the next RESET returns 1. The outer loop polls after boot step 5 (R154). What it was
returned is kept in lastPoll (log 6). -/
def Obligations.ConsumeReadsWithoutClearing : Prop :=
  (∀ (s : State) (rest : List HostAct), s.boot = .running → s.schedule = .consume :: rest →
    step s = .next { s with lastPoll := some s.errFlag, schedule := rest }) ∧
  (∀ (k : Nat) (s t : State) (rest : List HostAct), s.errFlag = true →
    Sys2Proof.core.run k s = .next t → NoneBetween resetsNow s 0 k →
    t.boot = .running → t.schedule = .consume :: rest →
    step t = .next { t with lastPoll := some true, schedule := rest })

/-- RESET from any state (70_reset_and_hazards.md section 1): the block's own state, and nothing else of the machine
but the boot stage when it is boot step 2. The model's choices in it: WB becomes fresh free values (log 2), CMP
is kept (log 3), the host's fields and, outside boot step 2, the boot stage are kept (log 5). -/
def Obligations.ResetRestoresTheBlockAlone : Prop :=
  ∀ (s : State) (rest : List HostAct), s.schedule = .reset :: rest →
    ∃ t, step s = .next t ∧
      t = { s with
        ctrlState := .awaitingCommand, errFlag := false, actions := [],
        wb := [], wbEpoch := s.wbEpoch + 1,
        boot := if s.boot = .broughtUp then .blockReset else s.boot, schedule := rest } ∧
      t.status = 0xFF#8 ∧ t.replyBuffer = ⟨0x01#8, 0xFF#8, 0x17#8⟩ ∧
      (∀ a : Fin 3, t.readWB a = Config.wbByte (s.wbEpoch + 1) a.val)

/-- What the spec's reset table gives State.reset: CTRL_STATE, STATUS, the reply's markers, ERR_FLAG; no byte of
WB is listed, and no action stands (R34; the other fields are the model's choice, logs 1 to 6). -/
def Obligations.ResetValuesOfTheBlock : Prop :=
  State.reset.ctrlState = .awaitingCommand ∧ State.reset.status = 0xFF#8 ∧
  State.reset.replyBuffer = ⟨0x01#8, 0xFF#8, 0x17#8⟩ ∧ State.reset.errFlag = false ∧
  State.reset.wb = [] ∧ State.reset.actions = []

/-- R154: the five boot steps in order, from any state, leave both buffers armed, nothing pending, the block
reset, the pulse output set up, and events served. -/
def Obligations.BootSequenceArmsAndRuns : Prop :=
  ∀ (s : State) (rest : List HostAct),
    s.schedule = [.bringUp true, .reset, .armBuffers, .registerHandler, .enableEvents] ++ rest →
    ∃ t, Sys2Proof.core.run 5 s = .next t ∧ t.boot = .running ∧ t.schedule = rest ∧
      t.wrArmed = true ∧ t.rdArmed = true ∧ t.wrPend = none ∧ t.rdPend = false ∧
      t.ctrlState = .awaitingCommand ∧ t.errFlag = false ∧
      t.pulsePeriod = 255 ∧ t.pulseEnabled = true

/-- Who writes what (10_state.md sections 2 and 5, 20_memory.md section 4). A turn that is neither a step of the block
nor RESET leaves CTRL_STATE, STATUS, ERR_FLAG and the action list; a turn that is neither MW nor RESET leaves
every byte of WB; CMP changes only by the Apply of an accepted frame, and the period and enable never, but for a
successful bring-up, which leaves CMP a fresh free value (log 3), the period LED_PERIOD and the pulse output
enabled. That RESET keeps CMP is log 3's choice, that a failed bring-up keeps all three is log 15's. -/
def Obligations.OneWriterPerLocation : Prop :=
  ∀ s t : State, step s = .next t →
    (eventNow s = none → resetsNow s = false →
      t.ctrlState = s.ctrlState ∧ t.status = s.status ∧ t.errFlag = s.errFlag ∧ t.actions = s.actions) ∧
    (resetsNow s = false → (∀ bytes rest, s.schedule ≠ .masterWrite bytes :: rest) →
      ∀ a, t.readWB a = s.readWB a) ∧
    ((∀ rest, s.schedule ≠ .bringUp true :: rest) →
      t.cmp = ((eventNow s).bind fun d => acceptedPayload d.1 d.2 s).getD s.cmp ∧
      t.pulsePeriod = s.pulsePeriod ∧ t.pulseEnabled = s.pulseEnabled) ∧
    (∀ rest, s.schedule = .bringUp true :: rest →
      t.cmp = Config.cmpByte s.cmpEpoch ∧ t.pulsePeriod = 255 ∧ t.pulseEnabled = true)

/-- R25: one turn sets the flag exactly when it delivers a word with ERR, and only RESET clears it. -/
def Obligations.ErrorFlagIsSticky : Prop :=
  ∀ s t : State, step s = .next t →
    (t.errFlag = true ↔ errsNow s = true ∨ (s.errFlag = true ∧ resetsNow s = false))

/-- R99, R113: master write, then the event that reports it. From every state whose write buffer is armed, a framed
payload the master writes reaches the pulse output, and the reply then reads Done exactly when the event does
not also report a read. -/
def Obligations.WrittenFrameReachesThePulseOutput : Prop :=
  ∀ (s : State) (v : Byte) (e : EventWord) (rest : List HostAct),
    s.boot = .running → s.wrArmed = true → s.wrPend = none → evtWr e = true → evtErr e = false →
    s.schedule = .masterWrite [0x01#8, v, 0x17#8] :: .event e 3 :: rest →
    ∃ t, Sys2Proof.core.run 2 s = .next t ∧ t.cmp = v ∧ t.wrArmed = true ∧ t.wrPend = none ∧
      t.replyBuffer = (if evtRd e then ⟨0x01#8, 0xFF#8, 0x17#8⟩ else ⟨0x01#8, 0x00#8, 0x17#8⟩)

/-! Invariants and whole runs -/

/-- The invariant at reset. -/
def Obligations.InvariantAtReset : Prop := machineInv State.reset = true

/-- Every turn keeps WB canonical and each buffer owned by exactly one side (20_memory.md R40, 43 R120, 70 R154).
It rests on the model's boot stages (log 5), on P_ERR_GATES_ALL being false (log 7), and on the model having no
turn in which the bus side drops an armed buffer after a transport error (log 16). -/
def Obligations.InvariantKeptByEveryTurn : Prop :=
  ∀ s t : State, machineInv s = true → step s = .next t → machineInv t = true

/-- A completed write that is not yet reported keeps its bytes in WB through every turn but RESET, and stays pending
with its count until it is reported or the boot sequence starts anew; and a pending 3-byte write has all three
bytes written (the model's form of duty R127, log 11). -/
def Obligations.CompletedFrameStaysHeld : Prop :=
  ∀ s t : State, resetsNow s = false → step s = .next t →
    (frameHeld s = true → frameHeld t = true) ∧
    (s.wrPend ≠ none → (∀ a, t.readWB a = s.readWB a) ∧ (t.wrPend = s.wrPend ∨ t.wrPend = none))

/-- A turn that meets the host's duties never stops. -/
def Obligations.DutifulTurnsNeverStop : Prop :=
  ∀ s : State, dutiful s = true → ∃ t, step s = .next t

/-- R27: no rule can observe WB's unspecified bytes. With other free values for them, a turn that meets the host's
duties gives the same state, but for the number of the draw those bytes come from. -/
def Obligations.UnspecifiedBytesAreNeverObserved : Prop :=
  ∀ (s : State) (k : Nat), dutiful s = true → ∃ t t',
    step s = .next t ∧ step { s with wbEpoch := k } = .next t' ∧
    t' = { t with wbEpoch := t'.wbEpoch }

/-- R37, over runs from any state: the flag is set exactly when a word with ERR came and no RESET after it, or it
was set and no RESET came. -/
def Obligations.ErrorFlagIffErrorSinceReset : Prop :=
  ∀ (k : Nat) (s t : State), Sys2Proof.core.run k s = .next t →
    (t.errFlag = true ↔
      LastBefore errsNow resetsNow s k ∨ (s.errFlag = true ∧ NoneBetween resetsNow s 0 k))

/-- R36, over runs from any state: CommandReady exactly when a step accepted a frame, its own read part did not
run, and no read part and no RESET came after it, or the state was CommandReady and none came. -/
def Obligations.ReadyIffAcceptedSinceReadOrReset : Prop :=
  ∀ (k : Nat) (s t : State), Sys2Proof.core.run k s = .next t →
    (t.ctrlState = .commandReady ↔
      LastBefore (fun u => acceptsNow u && !readsNow u) (fun u => readsNow u || resetsNow u) s k ∨
      (s.ctrlState = .commandReady ∧ NoneBetween (fun u => readsNow u || resetsNow u) s 0 k))

/-- R156, from any state in AwaitingCommand: as long as no frame is accepted, or only in words that also report a
read (R113), every master read returns `01 FF 17`. -/
def Obligations.NoDoneBeforeAnAcceptedFrame : Prop :=
  ∀ (k : Nat) (s t u : State) (rest : List HostAct), s.ctrlState = .awaitingCommand →
    Sys2Proof.core.run k s = .next t →
    NoneBetween (fun v => acceptsNow v && !readsNow v) s 0 k →
    t.schedule = .masterRead 3 :: rest → step t = .next u →
    u.lastReply = some ⟨0x01#8, 0xFF#8, 0x17#8⟩
end

