-- ==== Sys2Proof/Laws/State.lean ====
section
/-! SUPPORT. One lemma per field per named update of the state, so that no proof unfolds a record update. -/

namespace Sys2Proof.Machine

section writeWBFields
variable (s : State) (a : Fin 3) (v : Byte)
@[simp] theorem State.writeWB_ctrlState : (s.writeWB a v).ctrlState = s.ctrlState := rfl
@[simp] theorem State.writeWB_errFlag : (s.writeWB a v).errFlag = s.errFlag := rfl
@[simp] theorem State.writeWB_wb : (s.writeWB a v).wb = Memory.insert a.val v s.wb := rfl
@[simp] theorem State.writeWB_wbEpoch : (s.writeWB a v).wbEpoch = s.wbEpoch := rfl
@[simp] theorem State.writeWB_evtPort : (s.writeWB a v).evtPort = s.evtPort := rfl
@[simp] theorem State.writeWB_wrCountPort : (s.writeWB a v).wrCountPort = s.wrCountPort := rfl
@[simp] theorem State.writeWB_actions : (s.writeWB a v).actions = s.actions := rfl
@[simp] theorem State.writeWB_cmp : (s.writeWB a v).cmp = s.cmp := rfl
@[simp] theorem State.writeWB_cmpEpoch : (s.writeWB a v).cmpEpoch = s.cmpEpoch := rfl
@[simp] theorem State.writeWB_pulsePeriod : (s.writeWB a v).pulsePeriod = s.pulsePeriod := rfl
@[simp] theorem State.writeWB_pulseEnabled : (s.writeWB a v).pulseEnabled = s.pulseEnabled := rfl
@[simp] theorem State.writeWB_wrArmed : (s.writeWB a v).wrArmed = s.wrArmed := rfl
@[simp] theorem State.writeWB_rdArmed : (s.writeWB a v).rdArmed = s.rdArmed := rfl
@[simp] theorem State.writeWB_wrPend : (s.writeWB a v).wrPend = s.wrPend := rfl
@[simp] theorem State.writeWB_rdPend : (s.writeWB a v).rdPend = s.rdPend := rfl
@[simp] theorem State.writeWB_boot : (s.writeWB a v).boot = s.boot := rfl
@[simp] theorem State.writeWB_lastReply : (s.writeWB a v).lastReply = s.lastReply := rfl
@[simp] theorem State.writeWB_lastPoll : (s.writeWB a v).lastPoll = s.lastPoll := rfl
@[simp] theorem State.writeWB_schedule : (s.writeWB a v).schedule = s.schedule := rfl
end writeWBFields

section drawWBFields
variable (s : State)
@[simp] theorem State.drawWB_ctrlState : (s.drawWB).ctrlState = s.ctrlState := rfl
@[simp] theorem State.drawWB_errFlag : (s.drawWB).errFlag = s.errFlag := rfl
@[simp] theorem State.drawWB_wb : (s.drawWB).wb = [] := rfl
@[simp] theorem State.drawWB_wbEpoch : (s.drawWB).wbEpoch = s.wbEpoch + 1 := rfl
@[simp] theorem State.drawWB_evtPort : (s.drawWB).evtPort = s.evtPort := rfl
@[simp] theorem State.drawWB_wrCountPort : (s.drawWB).wrCountPort = s.wrCountPort := rfl
@[simp] theorem State.drawWB_actions : (s.drawWB).actions = s.actions := rfl
@[simp] theorem State.drawWB_cmp : (s.drawWB).cmp = s.cmp := rfl
@[simp] theorem State.drawWB_cmpEpoch : (s.drawWB).cmpEpoch = s.cmpEpoch := rfl
@[simp] theorem State.drawWB_pulsePeriod : (s.drawWB).pulsePeriod = s.pulsePeriod := rfl
@[simp] theorem State.drawWB_pulseEnabled : (s.drawWB).pulseEnabled = s.pulseEnabled := rfl
@[simp] theorem State.drawWB_wrArmed : (s.drawWB).wrArmed = s.wrArmed := rfl
@[simp] theorem State.drawWB_rdArmed : (s.drawWB).rdArmed = s.rdArmed := rfl
@[simp] theorem State.drawWB_wrPend : (s.drawWB).wrPend = s.wrPend := rfl
@[simp] theorem State.drawWB_rdPend : (s.drawWB).rdPend = s.rdPend := rfl
@[simp] theorem State.drawWB_boot : (s.drawWB).boot = s.boot := rfl
@[simp] theorem State.drawWB_lastReply : (s.drawWB).lastReply = s.lastReply := rfl
@[simp] theorem State.drawWB_lastPoll : (s.drawWB).lastPoll = s.lastPoll := rfl
@[simp] theorem State.drawWB_schedule : (s.drawWB).schedule = s.schedule := rfl
end drawWBFields

section drawCmpFields
variable (s : State)
@[simp] theorem State.drawCmp_ctrlState : (s.drawCmp).ctrlState = s.ctrlState := rfl
@[simp] theorem State.drawCmp_errFlag : (s.drawCmp).errFlag = s.errFlag := rfl
@[simp] theorem State.drawCmp_wb : (s.drawCmp).wb = s.wb := rfl
@[simp] theorem State.drawCmp_wbEpoch : (s.drawCmp).wbEpoch = s.wbEpoch := rfl
@[simp] theorem State.drawCmp_evtPort : (s.drawCmp).evtPort = s.evtPort := rfl
@[simp] theorem State.drawCmp_wrCountPort : (s.drawCmp).wrCountPort = s.wrCountPort := rfl
@[simp] theorem State.drawCmp_actions : (s.drawCmp).actions = s.actions := rfl
@[simp] theorem State.drawCmp_cmp : (s.drawCmp).cmp = Config.cmpByte s.cmpEpoch := rfl
@[simp] theorem State.drawCmp_cmpEpoch : (s.drawCmp).cmpEpoch = s.cmpEpoch + 1 := rfl
@[simp] theorem State.drawCmp_pulsePeriod : (s.drawCmp).pulsePeriod = s.pulsePeriod := rfl
@[simp] theorem State.drawCmp_pulseEnabled : (s.drawCmp).pulseEnabled = s.pulseEnabled := rfl
@[simp] theorem State.drawCmp_wrArmed : (s.drawCmp).wrArmed = s.wrArmed := rfl
@[simp] theorem State.drawCmp_rdArmed : (s.drawCmp).rdArmed = s.rdArmed := rfl
@[simp] theorem State.drawCmp_wrPend : (s.drawCmp).wrPend = s.wrPend := rfl
@[simp] theorem State.drawCmp_rdPend : (s.drawCmp).rdPend = s.rdPend := rfl
@[simp] theorem State.drawCmp_boot : (s.drawCmp).boot = s.boot := rfl
@[simp] theorem State.drawCmp_lastReply : (s.drawCmp).lastReply = s.lastReply := rfl
@[simp] theorem State.drawCmp_lastPoll : (s.drawCmp).lastPoll = s.lastPoll := rfl
@[simp] theorem State.drawCmp_schedule : (s.drawCmp).schedule = s.schedule := rfl
end drawCmpFields

section setCmpFields
variable (s : State) (v : Byte)
@[simp] theorem State.setCmp_ctrlState : (s.setCmp v).ctrlState = s.ctrlState := rfl
@[simp] theorem State.setCmp_errFlag : (s.setCmp v).errFlag = s.errFlag := rfl
@[simp] theorem State.setCmp_wb : (s.setCmp v).wb = s.wb := rfl
@[simp] theorem State.setCmp_wbEpoch : (s.setCmp v).wbEpoch = s.wbEpoch := rfl
@[simp] theorem State.setCmp_evtPort : (s.setCmp v).evtPort = s.evtPort := rfl
@[simp] theorem State.setCmp_wrCountPort : (s.setCmp v).wrCountPort = s.wrCountPort := rfl
@[simp] theorem State.setCmp_actions : (s.setCmp v).actions = s.actions := rfl
@[simp] theorem State.setCmp_cmp : (s.setCmp v).cmp = v := rfl
@[simp] theorem State.setCmp_cmpEpoch : (s.setCmp v).cmpEpoch = s.cmpEpoch := rfl
@[simp] theorem State.setCmp_pulsePeriod : (s.setCmp v).pulsePeriod = s.pulsePeriod := rfl
@[simp] theorem State.setCmp_pulseEnabled : (s.setCmp v).pulseEnabled = s.pulseEnabled := rfl
@[simp] theorem State.setCmp_wrArmed : (s.setCmp v).wrArmed = s.wrArmed := rfl
@[simp] theorem State.setCmp_rdArmed : (s.setCmp v).rdArmed = s.rdArmed := rfl
@[simp] theorem State.setCmp_wrPend : (s.setCmp v).wrPend = s.wrPend := rfl
@[simp] theorem State.setCmp_rdPend : (s.setCmp v).rdPend = s.rdPend := rfl
@[simp] theorem State.setCmp_boot : (s.setCmp v).boot = s.boot := rfl
@[simp] theorem State.setCmp_lastReply : (s.setCmp v).lastReply = s.lastReply := rfl
@[simp] theorem State.setCmp_lastPoll : (s.setCmp v).lastPoll = s.lastPoll := rfl
@[simp] theorem State.setCmp_schedule : (s.setCmp v).schedule = s.schedule := rfl
end setCmpFields

section setWrArmedFields
variable (s : State) (b : Bool)
@[simp] theorem State.setWrArmed_ctrlState : (s.setWrArmed b).ctrlState = s.ctrlState := rfl
@[simp] theorem State.setWrArmed_errFlag : (s.setWrArmed b).errFlag = s.errFlag := rfl
@[simp] theorem State.setWrArmed_wb : (s.setWrArmed b).wb = s.wb := rfl
@[simp] theorem State.setWrArmed_wbEpoch : (s.setWrArmed b).wbEpoch = s.wbEpoch := rfl
@[simp] theorem State.setWrArmed_evtPort : (s.setWrArmed b).evtPort = s.evtPort := rfl
@[simp] theorem State.setWrArmed_wrCountPort : (s.setWrArmed b).wrCountPort = s.wrCountPort := rfl
@[simp] theorem State.setWrArmed_actions : (s.setWrArmed b).actions = s.actions := rfl
@[simp] theorem State.setWrArmed_cmp : (s.setWrArmed b).cmp = s.cmp := rfl
@[simp] theorem State.setWrArmed_cmpEpoch : (s.setWrArmed b).cmpEpoch = s.cmpEpoch := rfl
@[simp] theorem State.setWrArmed_pulsePeriod : (s.setWrArmed b).pulsePeriod = s.pulsePeriod := rfl
@[simp] theorem State.setWrArmed_pulseEnabled : (s.setWrArmed b).pulseEnabled = s.pulseEnabled := rfl
@[simp] theorem State.setWrArmed_wrArmed : (s.setWrArmed b).wrArmed = b := rfl
@[simp] theorem State.setWrArmed_rdArmed : (s.setWrArmed b).rdArmed = s.rdArmed := rfl
@[simp] theorem State.setWrArmed_wrPend : (s.setWrArmed b).wrPend = s.wrPend := rfl
@[simp] theorem State.setWrArmed_rdPend : (s.setWrArmed b).rdPend = s.rdPend := rfl
@[simp] theorem State.setWrArmed_boot : (s.setWrArmed b).boot = s.boot := rfl
@[simp] theorem State.setWrArmed_lastReply : (s.setWrArmed b).lastReply = s.lastReply := rfl
@[simp] theorem State.setWrArmed_lastPoll : (s.setWrArmed b).lastPoll = s.lastPoll := rfl
@[simp] theorem State.setWrArmed_schedule : (s.setWrArmed b).schedule = s.schedule := rfl
end setWrArmedFields

section setRdArmedFields
variable (s : State) (b : Bool)
@[simp] theorem State.setRdArmed_ctrlState : (s.setRdArmed b).ctrlState = s.ctrlState := rfl
@[simp] theorem State.setRdArmed_errFlag : (s.setRdArmed b).errFlag = s.errFlag := rfl
@[simp] theorem State.setRdArmed_wb : (s.setRdArmed b).wb = s.wb := rfl
@[simp] theorem State.setRdArmed_wbEpoch : (s.setRdArmed b).wbEpoch = s.wbEpoch := rfl
@[simp] theorem State.setRdArmed_evtPort : (s.setRdArmed b).evtPort = s.evtPort := rfl
@[simp] theorem State.setRdArmed_wrCountPort : (s.setRdArmed b).wrCountPort = s.wrCountPort := rfl
@[simp] theorem State.setRdArmed_actions : (s.setRdArmed b).actions = s.actions := rfl
@[simp] theorem State.setRdArmed_cmp : (s.setRdArmed b).cmp = s.cmp := rfl
@[simp] theorem State.setRdArmed_cmpEpoch : (s.setRdArmed b).cmpEpoch = s.cmpEpoch := rfl
@[simp] theorem State.setRdArmed_pulsePeriod : (s.setRdArmed b).pulsePeriod = s.pulsePeriod := rfl
@[simp] theorem State.setRdArmed_pulseEnabled : (s.setRdArmed b).pulseEnabled = s.pulseEnabled := rfl
@[simp] theorem State.setRdArmed_wrArmed : (s.setRdArmed b).wrArmed = s.wrArmed := rfl
@[simp] theorem State.setRdArmed_rdArmed : (s.setRdArmed b).rdArmed = b := rfl
@[simp] theorem State.setRdArmed_wrPend : (s.setRdArmed b).wrPend = s.wrPend := rfl
@[simp] theorem State.setRdArmed_rdPend : (s.setRdArmed b).rdPend = s.rdPend := rfl
@[simp] theorem State.setRdArmed_boot : (s.setRdArmed b).boot = s.boot := rfl
@[simp] theorem State.setRdArmed_lastReply : (s.setRdArmed b).lastReply = s.lastReply := rfl
@[simp] theorem State.setRdArmed_lastPoll : (s.setRdArmed b).lastPoll = s.lastPoll := rfl
@[simp] theorem State.setRdArmed_schedule : (s.setRdArmed b).schedule = s.schedule := rfl
end setRdArmedFields

section setWrPendFields
variable (s : State) (p : Option Nat)
@[simp] theorem State.setWrPend_ctrlState : (s.setWrPend p).ctrlState = s.ctrlState := rfl
@[simp] theorem State.setWrPend_errFlag : (s.setWrPend p).errFlag = s.errFlag := rfl
@[simp] theorem State.setWrPend_wb : (s.setWrPend p).wb = s.wb := rfl
@[simp] theorem State.setWrPend_wbEpoch : (s.setWrPend p).wbEpoch = s.wbEpoch := rfl
@[simp] theorem State.setWrPend_evtPort : (s.setWrPend p).evtPort = s.evtPort := rfl
@[simp] theorem State.setWrPend_wrCountPort : (s.setWrPend p).wrCountPort = s.wrCountPort := rfl
@[simp] theorem State.setWrPend_actions : (s.setWrPend p).actions = s.actions := rfl
@[simp] theorem State.setWrPend_cmp : (s.setWrPend p).cmp = s.cmp := rfl
@[simp] theorem State.setWrPend_cmpEpoch : (s.setWrPend p).cmpEpoch = s.cmpEpoch := rfl
@[simp] theorem State.setWrPend_pulsePeriod : (s.setWrPend p).pulsePeriod = s.pulsePeriod := rfl
@[simp] theorem State.setWrPend_pulseEnabled : (s.setWrPend p).pulseEnabled = s.pulseEnabled := rfl
@[simp] theorem State.setWrPend_wrArmed : (s.setWrPend p).wrArmed = s.wrArmed := rfl
@[simp] theorem State.setWrPend_rdArmed : (s.setWrPend p).rdArmed = s.rdArmed := rfl
@[simp] theorem State.setWrPend_wrPend : (s.setWrPend p).wrPend = p := rfl
@[simp] theorem State.setWrPend_rdPend : (s.setWrPend p).rdPend = s.rdPend := rfl
@[simp] theorem State.setWrPend_boot : (s.setWrPend p).boot = s.boot := rfl
@[simp] theorem State.setWrPend_lastReply : (s.setWrPend p).lastReply = s.lastReply := rfl
@[simp] theorem State.setWrPend_lastPoll : (s.setWrPend p).lastPoll = s.lastPoll := rfl
@[simp] theorem State.setWrPend_schedule : (s.setWrPend p).schedule = s.schedule := rfl
end setWrPendFields

section setRdPendFields
variable (s : State) (b : Bool)
@[simp] theorem State.setRdPend_ctrlState : (s.setRdPend b).ctrlState = s.ctrlState := rfl
@[simp] theorem State.setRdPend_errFlag : (s.setRdPend b).errFlag = s.errFlag := rfl
@[simp] theorem State.setRdPend_wb : (s.setRdPend b).wb = s.wb := rfl
@[simp] theorem State.setRdPend_wbEpoch : (s.setRdPend b).wbEpoch = s.wbEpoch := rfl
@[simp] theorem State.setRdPend_evtPort : (s.setRdPend b).evtPort = s.evtPort := rfl
@[simp] theorem State.setRdPend_wrCountPort : (s.setRdPend b).wrCountPort = s.wrCountPort := rfl
@[simp] theorem State.setRdPend_actions : (s.setRdPend b).actions = s.actions := rfl
@[simp] theorem State.setRdPend_cmp : (s.setRdPend b).cmp = s.cmp := rfl
@[simp] theorem State.setRdPend_cmpEpoch : (s.setRdPend b).cmpEpoch = s.cmpEpoch := rfl
@[simp] theorem State.setRdPend_pulsePeriod : (s.setRdPend b).pulsePeriod = s.pulsePeriod := rfl
@[simp] theorem State.setRdPend_pulseEnabled : (s.setRdPend b).pulseEnabled = s.pulseEnabled := rfl
@[simp] theorem State.setRdPend_wrArmed : (s.setRdPend b).wrArmed = s.wrArmed := rfl
@[simp] theorem State.setRdPend_rdArmed : (s.setRdPend b).rdArmed = s.rdArmed := rfl
@[simp] theorem State.setRdPend_wrPend : (s.setRdPend b).wrPend = s.wrPend := rfl
@[simp] theorem State.setRdPend_rdPend : (s.setRdPend b).rdPend = b := rfl
@[simp] theorem State.setRdPend_boot : (s.setRdPend b).boot = s.boot := rfl
@[simp] theorem State.setRdPend_lastReply : (s.setRdPend b).lastReply = s.lastReply := rfl
@[simp] theorem State.setRdPend_lastPoll : (s.setRdPend b).lastPoll = s.lastPoll := rfl
@[simp] theorem State.setRdPend_schedule : (s.setRdPend b).schedule = s.schedule := rfl
end setRdPendFields

section setBootFields
variable (s : State) (b : BootStage)
@[simp] theorem State.setBoot_ctrlState : (s.setBoot b).ctrlState = s.ctrlState := rfl
@[simp] theorem State.setBoot_errFlag : (s.setBoot b).errFlag = s.errFlag := rfl
@[simp] theorem State.setBoot_wb : (s.setBoot b).wb = s.wb := rfl
@[simp] theorem State.setBoot_wbEpoch : (s.setBoot b).wbEpoch = s.wbEpoch := rfl
@[simp] theorem State.setBoot_evtPort : (s.setBoot b).evtPort = s.evtPort := rfl
@[simp] theorem State.setBoot_wrCountPort : (s.setBoot b).wrCountPort = s.wrCountPort := rfl
@[simp] theorem State.setBoot_actions : (s.setBoot b).actions = s.actions := rfl
@[simp] theorem State.setBoot_cmp : (s.setBoot b).cmp = s.cmp := rfl
@[simp] theorem State.setBoot_cmpEpoch : (s.setBoot b).cmpEpoch = s.cmpEpoch := rfl
@[simp] theorem State.setBoot_pulsePeriod : (s.setBoot b).pulsePeriod = s.pulsePeriod := rfl
@[simp] theorem State.setBoot_pulseEnabled : (s.setBoot b).pulseEnabled = s.pulseEnabled := rfl
@[simp] theorem State.setBoot_wrArmed : (s.setBoot b).wrArmed = s.wrArmed := rfl
@[simp] theorem State.setBoot_rdArmed : (s.setBoot b).rdArmed = s.rdArmed := rfl
@[simp] theorem State.setBoot_wrPend : (s.setBoot b).wrPend = s.wrPend := rfl
@[simp] theorem State.setBoot_rdPend : (s.setBoot b).rdPend = s.rdPend := rfl
@[simp] theorem State.setBoot_boot : (s.setBoot b).boot = b := rfl
@[simp] theorem State.setBoot_lastReply : (s.setBoot b).lastReply = s.lastReply := rfl
@[simp] theorem State.setBoot_lastPoll : (s.setBoot b).lastPoll = s.lastPoll := rfl
@[simp] theorem State.setBoot_schedule : (s.setBoot b).schedule = s.schedule := rfl
end setBootFields

section writeBlockFields
variable (s : State) (w : Work)
@[simp] theorem State.writeBlock_ctrlState : (s.writeBlock w).ctrlState = w.ctrl := rfl
@[simp] theorem State.writeBlock_errFlag : (s.writeBlock w).errFlag = w.err := rfl
@[simp] theorem State.writeBlock_wb : (s.writeBlock w).wb = s.wb := rfl
@[simp] theorem State.writeBlock_wbEpoch : (s.writeBlock w).wbEpoch = s.wbEpoch := rfl
@[simp] theorem State.writeBlock_evtPort : (s.writeBlock w).evtPort = s.evtPort := rfl
@[simp] theorem State.writeBlock_wrCountPort : (s.writeBlock w).wrCountPort = s.wrCountPort := rfl
@[simp] theorem State.writeBlock_actions : (s.writeBlock w).actions = w.acts := rfl
@[simp] theorem State.writeBlock_cmp : (s.writeBlock w).cmp = s.cmp := rfl
@[simp] theorem State.writeBlock_cmpEpoch : (s.writeBlock w).cmpEpoch = s.cmpEpoch := rfl
@[simp] theorem State.writeBlock_pulsePeriod : (s.writeBlock w).pulsePeriod = s.pulsePeriod := rfl
@[simp] theorem State.writeBlock_pulseEnabled : (s.writeBlock w).pulseEnabled = s.pulseEnabled := rfl
@[simp] theorem State.writeBlock_wrArmed : (s.writeBlock w).wrArmed = s.wrArmed := rfl
@[simp] theorem State.writeBlock_rdArmed : (s.writeBlock w).rdArmed = s.rdArmed := rfl
@[simp] theorem State.writeBlock_wrPend : (s.writeBlock w).wrPend = s.wrPend := rfl
@[simp] theorem State.writeBlock_rdPend : (s.writeBlock w).rdPend = s.rdPend := rfl
@[simp] theorem State.writeBlock_boot : (s.writeBlock w).boot = s.boot := rfl
@[simp] theorem State.writeBlock_lastReply : (s.writeBlock w).lastReply = s.lastReply := rfl
@[simp] theorem State.writeBlock_lastPoll : (s.writeBlock w).lastPoll = s.lastPoll := rfl
@[simp] theorem State.writeBlock_schedule : (s.writeBlock w).schedule = s.schedule := rfl
end writeBlockFields

section presentFields
variable (s : State) (e : EventWord) (n : Nat)
@[simp] theorem State.present_ctrlState : (s.present e n).ctrlState = s.ctrlState := rfl
@[simp] theorem State.present_errFlag : (s.present e n).errFlag = s.errFlag := rfl
@[simp] theorem State.present_wb : (s.present e n).wb = s.wb := rfl
@[simp] theorem State.present_wbEpoch : (s.present e n).wbEpoch = s.wbEpoch := rfl
@[simp] theorem State.present_evtPort : (s.present e n).evtPort = e := rfl
@[simp] theorem State.present_wrCountPort : (s.present e n).wrCountPort = n := rfl
@[simp] theorem State.present_actions : (s.present e n).actions = s.actions := rfl
@[simp] theorem State.present_cmp : (s.present e n).cmp = s.cmp := rfl
@[simp] theorem State.present_cmpEpoch : (s.present e n).cmpEpoch = s.cmpEpoch := rfl
@[simp] theorem State.present_pulsePeriod : (s.present e n).pulsePeriod = s.pulsePeriod := rfl
@[simp] theorem State.present_pulseEnabled : (s.present e n).pulseEnabled = s.pulseEnabled := rfl
@[simp] theorem State.present_wrArmed : (s.present e n).wrArmed = s.wrArmed := rfl
@[simp] theorem State.present_rdArmed : (s.present e n).rdArmed = s.rdArmed := rfl
@[simp] theorem State.present_wrPend : (s.present e n).wrPend = if evtWr e then none else s.wrPend := rfl
@[simp] theorem State.present_rdPend : (s.present e n).rdPend = if evtRd e then false else s.rdPend := rfl
@[simp] theorem State.present_boot : (s.present e n).boot = s.boot := rfl
@[simp] theorem State.present_lastReply : (s.present e n).lastReply = s.lastReply := rfl
@[simp] theorem State.present_lastPoll : (s.present e n).lastPoll = s.lastPoll := rfl
@[simp] theorem State.present_schedule : (s.present e n).schedule = s.schedule := rfl
end presentFields

section setScheduleFields
variable (s : State) (l : List HostAct)
@[simp] theorem State.setSchedule_ctrlState : (s.setSchedule l).ctrlState = s.ctrlState := rfl
@[simp] theorem State.setSchedule_errFlag : (s.setSchedule l).errFlag = s.errFlag := rfl
@[simp] theorem State.setSchedule_wb : (s.setSchedule l).wb = s.wb := rfl
@[simp] theorem State.setSchedule_wbEpoch : (s.setSchedule l).wbEpoch = s.wbEpoch := rfl
@[simp] theorem State.setSchedule_evtPort : (s.setSchedule l).evtPort = s.evtPort := rfl
@[simp] theorem State.setSchedule_wrCountPort : (s.setSchedule l).wrCountPort = s.wrCountPort := rfl
@[simp] theorem State.setSchedule_actions : (s.setSchedule l).actions = s.actions := rfl
@[simp] theorem State.setSchedule_cmp : (s.setSchedule l).cmp = s.cmp := rfl
@[simp] theorem State.setSchedule_cmpEpoch : (s.setSchedule l).cmpEpoch = s.cmpEpoch := rfl
@[simp] theorem State.setSchedule_pulsePeriod : (s.setSchedule l).pulsePeriod = s.pulsePeriod := rfl
@[simp] theorem State.setSchedule_pulseEnabled : (s.setSchedule l).pulseEnabled = s.pulseEnabled := rfl
@[simp] theorem State.setSchedule_wrArmed : (s.setSchedule l).wrArmed = s.wrArmed := rfl
@[simp] theorem State.setSchedule_rdArmed : (s.setSchedule l).rdArmed = s.rdArmed := rfl
@[simp] theorem State.setSchedule_wrPend : (s.setSchedule l).wrPend = s.wrPend := rfl
@[simp] theorem State.setSchedule_rdPend : (s.setSchedule l).rdPend = s.rdPend := rfl
@[simp] theorem State.setSchedule_boot : (s.setSchedule l).boot = s.boot := rfl
@[simp] theorem State.setSchedule_lastReply : (s.setSchedule l).lastReply = s.lastReply := rfl
@[simp] theorem State.setSchedule_lastPoll : (s.setSchedule l).lastPoll = s.lastPoll := rfl
@[simp] theorem State.setSchedule_schedule : (s.setSchedule l).schedule = l := rfl
end setScheduleFields

section takeReplyFields
variable (s : State)
@[simp] theorem State.takeReply_ctrlState : (s.takeReply).ctrlState = s.ctrlState := rfl
@[simp] theorem State.takeReply_errFlag : (s.takeReply).errFlag = s.errFlag := rfl
@[simp] theorem State.takeReply_wb : (s.takeReply).wb = s.wb := rfl
@[simp] theorem State.takeReply_wbEpoch : (s.takeReply).wbEpoch = s.wbEpoch := rfl
@[simp] theorem State.takeReply_evtPort : (s.takeReply).evtPort = s.evtPort := rfl
@[simp] theorem State.takeReply_wrCountPort : (s.takeReply).wrCountPort = s.wrCountPort := rfl
@[simp] theorem State.takeReply_actions : (s.takeReply).actions = s.actions := rfl
@[simp] theorem State.takeReply_cmp : (s.takeReply).cmp = s.cmp := rfl
@[simp] theorem State.takeReply_cmpEpoch : (s.takeReply).cmpEpoch = s.cmpEpoch := rfl
@[simp] theorem State.takeReply_pulsePeriod : (s.takeReply).pulsePeriod = s.pulsePeriod := rfl
@[simp] theorem State.takeReply_pulseEnabled : (s.takeReply).pulseEnabled = s.pulseEnabled := rfl
@[simp] theorem State.takeReply_wrArmed : (s.takeReply).wrArmed = s.wrArmed := rfl
@[simp] theorem State.takeReply_rdArmed : (s.takeReply).rdArmed = s.rdArmed := rfl
@[simp] theorem State.takeReply_wrPend : (s.takeReply).wrPend = s.wrPend := rfl
@[simp] theorem State.takeReply_rdPend : (s.takeReply).rdPend = s.rdPend := rfl
@[simp] theorem State.takeReply_boot : (s.takeReply).boot = s.boot := rfl
@[simp] theorem State.takeReply_lastReply : (s.takeReply).lastReply = some s.replyBuffer := rfl
@[simp] theorem State.takeReply_lastPoll : (s.takeReply).lastPoll = s.lastPoll := rfl
@[simp] theorem State.takeReply_schedule : (s.takeReply).schedule = s.schedule := rfl
end takeReplyFields

section consumeFlagFields
variable (s : State)
@[simp] theorem State.consumeFlag_ctrlState : (s.consumeFlag).ctrlState = s.ctrlState := rfl
@[simp] theorem State.consumeFlag_errFlag : (s.consumeFlag).errFlag = s.errFlag := rfl
@[simp] theorem State.consumeFlag_wb : (s.consumeFlag).wb = s.wb := rfl
@[simp] theorem State.consumeFlag_wbEpoch : (s.consumeFlag).wbEpoch = s.wbEpoch := rfl
@[simp] theorem State.consumeFlag_evtPort : (s.consumeFlag).evtPort = s.evtPort := rfl
@[simp] theorem State.consumeFlag_wrCountPort : (s.consumeFlag).wrCountPort = s.wrCountPort := rfl
@[simp] theorem State.consumeFlag_actions : (s.consumeFlag).actions = s.actions := rfl
@[simp] theorem State.consumeFlag_cmp : (s.consumeFlag).cmp = s.cmp := rfl
@[simp] theorem State.consumeFlag_cmpEpoch : (s.consumeFlag).cmpEpoch = s.cmpEpoch := rfl
@[simp] theorem State.consumeFlag_pulsePeriod : (s.consumeFlag).pulsePeriod = s.pulsePeriod := rfl
@[simp] theorem State.consumeFlag_pulseEnabled : (s.consumeFlag).pulseEnabled = s.pulseEnabled := rfl
@[simp] theorem State.consumeFlag_wrArmed : (s.consumeFlag).wrArmed = s.wrArmed := rfl
@[simp] theorem State.consumeFlag_rdArmed : (s.consumeFlag).rdArmed = s.rdArmed := rfl
@[simp] theorem State.consumeFlag_wrPend : (s.consumeFlag).wrPend = s.wrPend := rfl
@[simp] theorem State.consumeFlag_rdPend : (s.consumeFlag).rdPend = s.rdPend := rfl
@[simp] theorem State.consumeFlag_boot : (s.consumeFlag).boot = s.boot := rfl
@[simp] theorem State.consumeFlag_lastReply : (s.consumeFlag).lastReply = s.lastReply := rfl
@[simp] theorem State.consumeFlag_lastPoll : (s.consumeFlag).lastPoll = some s.errFlag := rfl
@[simp] theorem State.consumeFlag_schedule : (s.consumeFlag).schedule = s.schedule := rfl
end consumeFlagFields

section resetBlockFields
variable (s : State)
@[simp] theorem State.resetBlock_ctrlState : (s.resetBlock).ctrlState = .awaitingCommand := rfl
@[simp] theorem State.resetBlock_errFlag : (s.resetBlock).errFlag = false := rfl
@[simp] theorem State.resetBlock_wb : (s.resetBlock).wb = [] := rfl
@[simp] theorem State.resetBlock_wbEpoch : (s.resetBlock).wbEpoch = s.wbEpoch + 1 := rfl
@[simp] theorem State.resetBlock_evtPort : (s.resetBlock).evtPort = s.evtPort := rfl
@[simp] theorem State.resetBlock_wrCountPort : (s.resetBlock).wrCountPort = s.wrCountPort := rfl
@[simp] theorem State.resetBlock_actions : (s.resetBlock).actions = [] := rfl
@[simp] theorem State.resetBlock_cmp : (s.resetBlock).cmp = s.cmp := rfl
@[simp] theorem State.resetBlock_cmpEpoch : (s.resetBlock).cmpEpoch = s.cmpEpoch := rfl
@[simp] theorem State.resetBlock_pulsePeriod : (s.resetBlock).pulsePeriod = s.pulsePeriod := rfl
@[simp] theorem State.resetBlock_pulseEnabled : (s.resetBlock).pulseEnabled = s.pulseEnabled := rfl
@[simp] theorem State.resetBlock_wrArmed : (s.resetBlock).wrArmed = s.wrArmed := rfl
@[simp] theorem State.resetBlock_rdArmed : (s.resetBlock).rdArmed = s.rdArmed := rfl
@[simp] theorem State.resetBlock_wrPend : (s.resetBlock).wrPend = s.wrPend := rfl
@[simp] theorem State.resetBlock_rdPend : (s.resetBlock).rdPend = s.rdPend := rfl
@[simp] theorem State.resetBlock_boot : (s.resetBlock).boot = s.boot := rfl
@[simp] theorem State.resetBlock_lastReply : (s.resetBlock).lastReply = s.lastReply := rfl
@[simp] theorem State.resetBlock_lastPoll : (s.resetBlock).lastPoll = s.lastPoll := rfl
@[simp] theorem State.resetBlock_schedule : (s.resetBlock).schedule = s.schedule := rfl
end resetBlockFields

section disarmFields
variable (s : State)
@[simp] theorem State.disarm_ctrlState : s.disarm.ctrlState = s.ctrlState := rfl
@[simp] theorem State.disarm_errFlag : s.disarm.errFlag = s.errFlag := rfl
@[simp] theorem State.disarm_wb : s.disarm.wb = s.wb := rfl
@[simp] theorem State.disarm_wbEpoch : s.disarm.wbEpoch = s.wbEpoch := rfl
@[simp] theorem State.disarm_evtPort : s.disarm.evtPort = s.evtPort := rfl
@[simp] theorem State.disarm_wrCountPort : s.disarm.wrCountPort = s.wrCountPort := rfl
@[simp] theorem State.disarm_actions : s.disarm.actions = s.actions := rfl
@[simp] theorem State.disarm_cmp : s.disarm.cmp = s.cmp := rfl
@[simp] theorem State.disarm_cmpEpoch : s.disarm.cmpEpoch = s.cmpEpoch := rfl
@[simp] theorem State.disarm_pulsePeriod : s.disarm.pulsePeriod = s.pulsePeriod := rfl
@[simp] theorem State.disarm_pulseEnabled : s.disarm.pulseEnabled = s.pulseEnabled := rfl
@[simp] theorem State.disarm_wrArmed : s.disarm.wrArmed = false := rfl
@[simp] theorem State.disarm_rdArmed : s.disarm.rdArmed = false := rfl
@[simp] theorem State.disarm_wrPend : s.disarm.wrPend = none := rfl
@[simp] theorem State.disarm_rdPend : s.disarm.rdPend = false := rfl
@[simp] theorem State.disarm_boot : s.disarm.boot = s.boot := rfl
@[simp] theorem State.disarm_lastReply : s.disarm.lastReply = s.lastReply := rfl
@[simp] theorem State.disarm_lastPoll : s.disarm.lastPoll = s.lastPoll := rfl
@[simp] theorem State.disarm_schedule : s.disarm.schedule = s.schedule := rfl
end disarmFields

section startPulseFields
variable (s : State)
@[simp] theorem State.startPulse_ctrlState : s.startPulse.ctrlState = s.ctrlState := rfl
@[simp] theorem State.startPulse_errFlag : s.startPulse.errFlag = s.errFlag := rfl
@[simp] theorem State.startPulse_wb : s.startPulse.wb = s.wb := rfl
@[simp] theorem State.startPulse_wbEpoch : s.startPulse.wbEpoch = s.wbEpoch := rfl
@[simp] theorem State.startPulse_evtPort : s.startPulse.evtPort = s.evtPort := rfl
@[simp] theorem State.startPulse_wrCountPort : s.startPulse.wrCountPort = s.wrCountPort := rfl
@[simp] theorem State.startPulse_actions : s.startPulse.actions = s.actions := rfl
@[simp] theorem State.startPulse_cmp : s.startPulse.cmp = Config.cmpByte s.cmpEpoch := rfl
@[simp] theorem State.startPulse_cmpEpoch : s.startPulse.cmpEpoch = s.cmpEpoch + 1 := rfl
@[simp] theorem State.startPulse_pulsePeriod : s.startPulse.pulsePeriod = Config.ledPeriod := rfl
@[simp] theorem State.startPulse_pulseEnabled : s.startPulse.pulseEnabled = true := rfl
@[simp] theorem State.startPulse_wrArmed : s.startPulse.wrArmed = s.wrArmed := rfl
@[simp] theorem State.startPulse_rdArmed : s.startPulse.rdArmed = s.rdArmed := rfl
@[simp] theorem State.startPulse_wrPend : s.startPulse.wrPend = s.wrPend := rfl
@[simp] theorem State.startPulse_rdPend : s.startPulse.rdPend = s.rdPend := rfl
@[simp] theorem State.startPulse_boot : s.startPulse.boot = s.boot := rfl
@[simp] theorem State.startPulse_lastReply : s.startPulse.lastReply = s.lastReply := rfl
@[simp] theorem State.startPulse_lastPoll : s.startPulse.lastPoll = s.lastPoll := rfl
@[simp] theorem State.startPulse_schedule : s.startPulse.schedule = s.schedule := rfl
end startPulseFields

end Sys2Proof.Machine
end

