-- ==== Sys2Proof/Laws/Memory.lean ====
section
/-! SUPPORT. WB as memory: a read after a write, the canonical form, and both for a whole master write. -/

namespace Sys2Proof.Machine

theorem Memory.read_insert (a b : Nat) (v : Byte) (m : Memory) :
    Memory.read (Memory.insert a v m) b = if a = b then some v else Memory.read m b := by
  induction m with
  | nil => rfl
  | cons c m ih =>
    obtain ⟨k, u⟩ := c
    unfold Memory.insert
    split
    · rfl
    · split
      · next h => subst h; simp only [Memory.read]; split <;> rfl
      · next h => simp only [Memory.read, ih]; split <;> split <;> simp_all

theorem Memory.wfFrom_mono {lo lo' : Nat} {m : Memory} (h : lo' ≤ lo) (hm : Memory.wfFrom lo m = true) :
    Memory.wfFrom lo' m = true := by
  cases m with
  | nil => rfl
  | cons c m =>
    simp only [Memory.wfFrom, Bool.and_eq_true, decide_eq_true_eq] at hm ⊢
    exact ⟨⟨by omega, hm.1.2⟩, hm.2⟩

theorem Memory.wfFrom_insert {a : Nat} (v : Byte) (ha : a < 3) (m : Memory) :
    ∀ {lo : Nat}, lo ≤ a → Memory.wfFrom lo m = true → Memory.wfFrom lo (Memory.insert a v m) = true := by
  induction m with
  | nil =>
    intro lo hlo _
    simp [Memory.insert, Memory.wfFrom, hlo, ha]
  | cons c m ih =>
    intro lo hlo hm
    obtain ⟨k, u⟩ := c
    simp only [Memory.wfFrom, Bool.and_eq_true, decide_eq_true_eq] at hm
    unfold Memory.insert
    split
    · next h =>
      simp only [Memory.wfFrom, Bool.and_eq_true, decide_eq_true_eq]
      exact ⟨⟨hlo, ha⟩, ⟨by omega, hm.1.2⟩, hm.2⟩
    · split
      · next h =>
        subst h
        simp only [Memory.wfFrom, Bool.and_eq_true, decide_eq_true_eq]
        exact ⟨⟨hlo, ha⟩, hm.2⟩
      · next h1 h2 =>
        simp only [Memory.wfFrom, Bool.and_eq_true, decide_eq_true_eq]
        exact ⟨hm.1, ih (by omega) hm.2⟩

/-- A byte write keeps the canonical form. -/
theorem Memory.wf_insert {a : Nat} (v : Byte) (ha : a < 3) {m : Memory} (hm : m.wf = true) :
    (Memory.insert a v m).wf = true :=
  Memory.wfFrom_insert v ha m (Nat.zero_le a) hm

/-- A master write keeps the canonical form. -/
theorem wf_fillWB (bs : List Byte) : ∀ (i : Nat) (m : Memory),
    i + bs.length ≤ 3 → m.wf = true → (fillWB bs i m).wf = true := by
  induction bs with
  | nil => intro i m _ hm; exact hm
  | cons b bs ih =>
    intro i m hi hm
    simp only [List.length_cons] at hi
    exact ih (i + 1) _ (by omega) (Memory.wf_insert b (by omega) hm)

/-- What a byte reads as after a master write. -/
theorem read_fillWB (bs : List Byte) : ∀ (i : Nat) (m : Memory) (a : Nat),
    Memory.read (fillWB bs i m) a =
      if i ≤ a ∧ a < i + bs.length then bs[a - i]? else Memory.read m a := by
  induction bs with
  | nil => intro i m a; simp [fillWB]
  | cons b bs ih =>
    intro i m a
    simp only [fillWB, ih, Memory.read_insert, List.length_cons]
    by_cases h1 : i = a
    · subst h1; simp
    · by_cases h2 : i + 1 ≤ a ∧ a < i + 1 + bs.length
      · have h3 : a - i = (a - (i + 1)) + 1 := by omega
        rw [if_pos h2, if_pos (by omega), h3, List.getElem?_cons_succ]
      · rw [if_neg h2, if_neg h1, if_neg (by omega)]

/-- MW keeps WB's canonical form. -/
theorem wf_receiveBytes (s : State) (bs : List Byte) (h : s.wb.wf = true) :
    (s.receiveBytes bs).wb.wf = true := by
  unfold State.receiveBytes
  split
  · next hl => exact wf_fillWB bs 0 s.wb (by simpa [Config.frameLen] using hl) h
  · rfl

/-- Leaving WB unspecified lists nothing, which is canonical. -/
theorem wf_drawWB (s : State) : s.drawWB.wb.wf = true := rfl

theorem wf_reset : State.reset.wb.wf = true := rfl

/-- A byte of WB depends on WB and its draw alone. -/
theorem readWB_congr {s t : State} (hw : s.wb = t.wb) (he : s.wbEpoch = t.wbEpoch) (a : Fin 3) :
    s.readWB a = t.readWB a := by
  simp only [State.readWB, hw, he]

/-- A written byte reads back, and every other byte is as before. -/
theorem readWB_writeWB (s : State) (a b : Fin 3) (v : Byte) :
    (s.writeWB a v).readWB b = if a = b then v else s.readWB b := by
  simp only [State.readWB, State.writeWB_wb, State.writeWB_wbEpoch, Memory.read_insert, Fin.val_inj]
  split <;> rfl

/-- MW changes nothing of the state but WB. -/
theorem receiveBytes_eq (s : State) (bs : List Byte) :
    s.receiveBytes bs =
      { s with wb := (s.receiveBytes bs).wb, wbEpoch := (s.receiveBytes bs).wbEpoch } := by
  unfold State.receiveBytes
  split <;> rfl

end Sys2Proof.Machine
end

