-- ==== Sys2Proof/Laws/Ops.lean ====
section
/-! SUPPORT. One lemma per shared operation that says everything it can do. -/

namespace Sys2Proof.Machine

/-- The compare value an action list leaves: that of its last Apply, or the one before. -/
def lastApplied : List Action → Byte → Byte
  | [], v => v
  | .apply u :: as, _ => lastApplied as u
  | _ :: as, v => lastApplied as v

/-- Carrying out an action list touches CMP and the two armed bits, and nothing else. -/
theorem carryOut_eq (as : List Action) : ∀ s : State,
    s.carryOut as =
      { s with
        cmp := lastApplied as s.cmp
        wrArmed := s.wrArmed || as.contains .rearmWrite
        rdArmed := s.rdArmed || as.contains .rearmRead } := by
  induction as with
  | nil => intro s; simp [State.carryOut, lastApplied]
  | cons a as ih =>
    intro s
    cases a <;>
      simp [State.carryOut, ih, Action.call, State.perform, State.setCmp, State.setWrArmed,
        State.setRdArmed, lastApplied]

/-- The end of a step: what it writes of the block, and what the external agents make of the actions. -/
theorem commit_eq (s : State) (w : Work) :
    s.commit w =
      { s with
        ctrlState := w.ctrl
        errFlag := w.err
        actions := w.acts
        cmp := lastApplied w.acts s.cmp
        wrArmed := s.wrArmed || w.acts.contains .rearmWrite
        rdArmed := s.rdArmed || w.acts.contains .rearmRead } := by
  simp [State.commit, carryOut_eq, State.writeBlock]

/-- VALIDATE in one equation (spec 40 R72). -/
theorem validate_eq (n : Nat) (s : State) :
    validate n s =
      if n = 3 ∧ s.readWB 0 = 0x01#8 ∧ s.readWB 2 = 0x17#8 then .ok (s.readWB 1) else .invalid := by
  simp only [validate, State.memRead, State.payload, Config.frameLen, Config.sopPos, Config.eopPos,
    Config.payloadPos, Config.sopValue, Config.eopValue]
  by_cases h1 : n = 3 <;> by_cases h2 : s.readWB 0 = 0x01#8 <;> by_cases h3 : s.readWB 2 = 0x17#8 <;>
    simp [h1, h2, h3]

/-- VALIDATE depends on its operands alone (spec 40 R80). -/
theorem validate_congr {n : Nat} {s t : State} (hw : s.wb = t.wb) (he : s.wbEpoch = t.wbEpoch) :
    validate n s = validate n t := by
  simp only [validate_eq, readWB_congr hw he]

/-- Inspection either accepts a payload or leaves the working copy alone (spec 42 R95, R96). -/
theorem inspectFrame_cases (s : State) (w : Work) :
    (∃ v, validate s.writeCount s = .ok v ∧
        inspectFrame s w = { w with ctrl := .commandReady, acts := w.acts ++ [.apply v] }) ∨
      (validate s.writeCount s = .invalid ∧ inspectFrame s w = w) := by
  unfold inspectFrame
  cases h : validate s.writeCount s with
  | ok v => exact .inl ⟨v, rfl, rfl⟩
  | invalid => exact .inr ⟨rfl, rfl⟩

theorem errorPart_eq (w : Work) :
    errorPart w = { w with err := true, acts := w.acts ++ [.signalError] } := rfl

theorem readPart_eq (w : Work) :
    readPart w = { w with ctrl := .awaitingCommand, acts := w.acts ++ [.rearmRead] } := rfl

theorem writePartAfterError_eq (w : Work) :
    writePartAfterError Config.pErrGatesAll w = { w with acts := w.acts ++ [.rearmWrite] } := rfl

theorem readPartAfterError_eq (w : Work) :
    readPartAfterError Config.pErrGatesAll w = readPart w := rfl

/-- Every event word runs in every state: its answer is the end of a step. -/
theorem exec_is_commit (i : Instr) (s : State) : ∃ w : Work, exec i s = .next (s.commit w) := by
  cases i <;> exact ⟨_, rfl⟩

end Sys2Proof.Machine
end

