-- ==== Sys2Proof/Laws/PerInstr.lean ====
section
/-! SUPPORT. The per-instruction family: each instruction is well formed, and its word of the opcode table decodes
to it from the port, from a raw byte and as a table word. -/

namespace Sys2Proof.Laws.Encoding

/-- What is said of each instruction as syntax (spec 30 R62, R66). -/
def Statement (i : Instr) : Prop :=
  i.wf = true ∧ decodeEvent (encode i) = i ∧
    decodeBytes [(encode i).setWidth 8] = .ok i ∧ decodeTableWord 8 (encode i).toNat = some i

theorem evNone : Statement .evNone := ⟨rfl, rfl, rfl, rfl⟩
theorem evWr : Statement .evWr := ⟨rfl, rfl, rfl, rfl⟩
theorem evRd : Statement .evRd := ⟨rfl, rfl, rfl, rfl⟩
theorem evWrRd : Statement .evWrRd := ⟨rfl, rfl, rfl, rfl⟩
theorem evErr : Statement .evErr := ⟨rfl, rfl, rfl, rfl⟩
theorem evErrWr : Statement .evErrWr := ⟨rfl, rfl, rfl, rfl⟩
theorem evErrRd : Statement .evErrRd := ⟨rfl, rfl, rfl, rfl⟩
theorem evErrWrRd : Statement .evErrWrRd := ⟨rfl, rfl, rfl, rfl⟩

end Sys2Proof.Laws.Encoding
end

