-- ==== Sys2Proof/Laws/Step.lean ====
section
/-! SUPPORT. What one atomic event can be, said once. -/

namespace Sys2Proof.Machine

theorem step_idle {s : State} (h : s.schedule = []) : step s = .next s := by
  simp [step, nextTurn, h]

theorem step_event {s : State} {e : EventWord} {n : Nat} {rest : List HostAct}
    (h : s.schedule = .event e n :: rest) (hb : s.boot = .running) :
    step s = exec (decodeEvent e) ((s.setSchedule rest).present e n) := by
  simp [step, nextTurn, h, hb]

theorem step_event_not_running {s : State} {e : EventWord} {n : Nat} {rest : List HostAct}
    (h : s.schedule = .event e n :: rest) (hb : s.boot ≠ .running) :
    step s = .fault .eventNotDeliverable := by
  simp [step, nextTurn, h, hb]

theorem step_masterWrite {s : State} {bytes : List Byte} {rest : List HostAct}
    (h : s.schedule = .masterWrite bytes :: rest) :
    step s = masterWrite bytes (s.setSchedule rest) := by
  simp [step, nextTurn, h]

theorem step_masterRead {s : State} {len : Nat} {rest : List HostAct}
    (h : s.schedule = .masterRead len :: rest) :
    step s = masterRead len (s.setSchedule rest) := by
  simp [step, nextTurn, h]

theorem step_consume {s : State} {rest : List HostAct} (h : s.schedule = .consume :: rest) :
    step s = pollFlag (s.setSchedule rest) := by
  simp [step, nextTurn, h]

theorem step_reset {s : State} {rest : List HostAct} (h : s.schedule = .reset :: rest) :
    step s = blockReset (s.setSchedule rest) := by
  simp [step, nextTurn, h]

theorem step_bringUp {s : State} {ok : Bool} {rest : List HostAct}
    (h : s.schedule = .bringUp ok :: rest) : step s = bringUp ok (s.setSchedule rest) := by
  simp [step, nextTurn, h]

theorem step_armBuffers {s : State} {rest : List HostAct} (h : s.schedule = .armBuffers :: rest) :
    step s = armBuffers (s.setSchedule rest) := by
  simp [step, nextTurn, h]

theorem step_registerHandler {s : State} {rest : List HostAct}
    (h : s.schedule = .registerHandler :: rest) : step s = registerHandler (s.setSchedule rest) := by
  simp [step, nextTurn, h]

theorem step_enableEvents {s : State} {rest : List HostAct}
    (h : s.schedule = .enableEvents :: rest) : step s = enableEvents (s.setSchedule rest) := by
  simp [step, nextTurn, h]

/-- A poll that answers was made while events are served, and only records the flag. -/
theorem pollFlag_next {s t : State} (h : pollFlag s = .next t) : s.boot = .running ∧ t = s.consumeFlag := by
  unfold pollFlag at h
  split at h
  · next hb => exact ⟨hb, (Host.Outcome.next.inj h).symm⟩
  · cases h

/-- A boot action that answers was taken in its order, and what it leaves. -/
theorem armBuffers_next {s t : State} (h : armBuffers s = .next t) :
    s.boot = .blockReset ∧
      t = { s with wrArmed := true, rdArmed := true, wrPend := none, rdPend := false, boot := .armed } := by
  unfold armBuffers at h
  split at h
  · next hb => exact ⟨hb, (Host.Outcome.next.inj h).symm⟩
  · cases h

theorem registerHandler_next {s t : State} (h : registerHandler s = .next t) :
    s.boot = .armed ∧ t = s.setBoot .registered := by
  unfold registerHandler at h
  split at h
  · next hb => exact ⟨hb, (Host.Outcome.next.inj h).symm⟩
  · cases h

theorem enableEvents_next {s t : State} (h : enableEvents s = .next t) :
    s.boot = .registered ∧ t = s.setBoot .running := by
  unfold enableEvents at h
  split at h
  · next hb => exact ⟨hb, (Host.Outcome.next.inj h).symm⟩
  · cases h

/-- A master write that answers was enabled. -/
theorem masterWrite_next {s t : State} {bytes : List Byte} (h : masterWrite bytes s = .next t) :
    s.wrArmed = true ∧ s.wrPend = none ∧
      t = ((s.receiveBytes bytes).setWrArmed false).setWrPend (some bytes.length) := by
  unfold masterWrite at h
  split at h
  · next hg =>
    simp only [Bool.and_eq_true, Option.isNone_iff_eq_none] at hg
    exact ⟨hg.1, hg.2, (Host.Outcome.next.inj h).symm⟩
  · cases h

/-- A master read that answers is a whole one and was enabled. -/
theorem masterRead_next {s t : State} {len : Nat} (h : masterRead len s = .next t) :
    len = 3 ∧ s.rdArmed = true ∧ s.rdPend = false ∧ t = (s.takeReply.setRdArmed false).setRdPend true := by
  unfold masterRead at h
  split at h
  · cases h
  · next hl =>
    split at h
    · next hg =>
      simp only [Bool.and_eq_true, Bool.not_eq_true'] at hg
      exact ⟨by simpa [Config.frameLen] using hl, hg.1, hg.2, (Host.Outcome.next.inj h).symm⟩
    · cases h

/-- RESET always answers. -/
theorem blockReset_eq (s : State) :
    blockReset s = .next { s.resetBlock with
      boot := if s.boot = .broughtUp then .blockReset else s.boot } := by
  unfold blockReset
  split <;> rfl

/-- Bring-up always answers. -/
theorem bringUp_eq (ok : Bool) (s : State) :
    bringUp ok s = .next (if ok then s.disarm.startPulse.setBoot .broughtUp else s.disarm.setBoot .failed) := by
  cases ok <;> rfl

/-- A turn that answers a next state was idle, a step of the block, or one host action that was enabled. -/
theorem step_cases {s t : State} (h : step s = .next t) :
    (s.schedule = [] ∧ t = s) ∨
    ∃ act rest, s.schedule = act :: rest ∧
      ((∃ e n, act = .event e n ∧ s.boot = .running ∧
          exec (decodeEvent e) ((s.setSchedule rest).present e n) = .next t) ∨
       (∃ bytes, act = .masterWrite bytes ∧ masterWrite bytes (s.setSchedule rest) = .next t) ∨
       (∃ len, act = .masterRead len ∧ masterRead len (s.setSchedule rest) = .next t) ∨
       (act = .consume ∧ pollFlag (s.setSchedule rest) = .next t) ∨
       (act = .reset ∧ blockReset (s.setSchedule rest) = .next t) ∨
       (∃ ok, act = .bringUp ok ∧ bringUp ok (s.setSchedule rest) = .next t) ∨
       (act = .armBuffers ∧ armBuffers (s.setSchedule rest) = .next t) ∨
       (act = .registerHandler ∧ registerHandler (s.setSchedule rest) = .next t) ∨
       (act = .enableEvents ∧ enableEvents (s.setSchedule rest) = .next t)) := by
  cases hs : s.schedule with
  | nil =>
    rw [step_idle hs] at h
    exact .inl ⟨rfl, (Host.Outcome.next.inj h).symm⟩
  | cons act rest =>
    refine .inr ⟨act, rest, rfl, ?_⟩
    cases act with
    | event e n =>
      by_cases hb : s.boot = .running
      · rw [step_event hs hb] at h; exact .inl ⟨e, n, rfl, hb, h⟩
      · rw [step_event_not_running hs hb] at h; cases h
    | masterWrite bytes => rw [step_masterWrite hs] at h; simp [h]
    | masterRead len => rw [step_masterRead hs] at h; simp [h]
    | consume => rw [step_consume hs] at h; simp [h]
    | reset => rw [step_reset hs] at h; simp [h]
    | bringUp ok => rw [step_bringUp hs] at h; simp [h]
    | armBuffers => rw [step_armBuffers hs] at h; simp [h]
    | registerHandler => rw [step_registerHandler hs] at h; simp [h]
    | enableEvents => rw [step_enableEvents hs] at h; simp [h]

end Sys2Proof.Machine
end

