-- ==== Sys2Proof/Laws/Run.lean ====
section
/-! SUPPORT. Runs: one more turn at the front, and one more turn at the end. -/

namespace Sys2Proof.Machine

theorem run_zero (s : State) : Sys2Proof.core.run 0 s = .next s := rfl

/-- A longer run takes a turn first. -/
theorem run_cons (k : Nat) (s t : State) :
    Sys2Proof.core.run (k + 1) s = .next t ↔
      ∃ u, step s = .next u ∧ Sys2Proof.core.run k u = .next t := by
  have hs : Sys2Proof.core.step s = step s := rfl
  simp only [Host.Core.run]
  rw [hs]
  cases step s <;> simp

/-- A longer run takes a turn last. -/
theorem run_snoc (k : Nat) : ∀ s t : State,
    Sys2Proof.core.run (k + 1) s = .next t ↔
      ∃ u, Sys2Proof.core.run k s = .next u ∧ step u = .next t := by
  induction k with
  | zero =>
    intro s t
    rw [run_cons]
    constructor
    · rintro ⟨u, hu, ht⟩; cases ht; exact ⟨s, rfl, hu⟩
    · rintro ⟨u, hu, ht⟩; cases hu; exact ⟨t, ht, rfl⟩
  | succ k ih =>
    intro s t
    rw [run_cons]
    constructor
    · rintro ⟨u, hu, ht⟩
      obtain ⟨v, hv, hvt⟩ := (ih u t).1 ht
      exact ⟨v, (run_cons k s v).2 ⟨u, hu, hv⟩, hvt⟩
    · rintro ⟨v, hv, hvt⟩
      obtain ⟨u, hu, huv⟩ := (run_cons k s v).1 hv
      exact ⟨u, hu, (ih u t).2 ⟨v, huv, hvt⟩⟩

end Sys2Proof.Machine
end

