-- ==== Sys2Proof/Machine/Trace.lean ====
section
/-! DEFINITION. The trace notation of spec 30 section 5: its action lines, their expansion, the schedule they stand
for, and their encoding. Comments and CHECK lines are no actions (spec 30 R67). -/

namespace Sys2Proof.Machine

/-- An action line of a trace (spec 30 R67), or one of its pseudo-actions (spec 30 R68). -/
inductive TraceLine where
  /-- `RESET` -/
  | reset
  /-- `MW b0 .. b(n-1)` -/
  | mw (bytes : List Byte)
  /-- `MR` -/
  | mr
  /-- `EV <mnemonic>` -/
  | ev (i : Instr)
  /-- `CMD v` -/
  | cmd (v : Byte)
  /-- `POLL` -/
  | poll
  /-- `WRRD b0 .. b(n-1)` -/
  | wrrd (bytes : List Byte)
  /-- `BUSERR` -/
  | buserr
  deriving DecidableEq, Repr

/-- The expansion of a pseudo-action; an action stands for itself (spec 30 R68). -/
def expandLine : TraceLine → List TraceLine
  | .reset => [.reset]
  | .mw bytes => [.mw bytes]
  | .mr => [.mr]
  | .ev i => [.ev i]
  | .cmd v => [.mw [Config.sopValue, v, Config.eopValue], .ev .evWr]
  | .poll => [.mr, .ev .evRd]
  | .wrrd bytes => [.mw bytes, .mr, .ev .evWrRd]
  | .buserr => [.ev .evErr]

/-- The host action of one expanded line; `n` is the count of the last MW since the last write re-arm, or 0
(spec 30 R67). -/
def lineAct (n : Nat) : TraceLine → List HostAct
  | .reset => [.reset]
  | .mw bytes => [.masterWrite bytes]
  | .mr => [.masterRead Config.frameLen]
  | .ev i => [.event (encode i) n]
  | .cmd _ => []
  | .poll => []
  | .wrrd _ => []
  | .buserr => []

/-- The count of the last MW since the last write re-arm, after one expanded line. -/
def lineCount (n : Nat) : TraceLine → Nat
  | .reset => n
  | .mw bytes => bytes.length
  | .mr => n
  | .ev i => if evtWr (encode i) && !(Config.pErrGatesAll && evtErr (encode i)) then 0 else n
  | .cmd _ => n
  | .poll => n
  | .wrrd _ => n
  | .buserr => n

/-- The schedule of expanded lines. -/
def linesSchedule : Nat → List TraceLine → List HostAct
  | _, [] => []
  | n, l :: ls => lineAct n l ++ linesSchedule (lineCount n l) ls

/-- The schedule a trace stands for, from the count `n` of a write not yet reported (spec 30 R67, R68). -/
def traceSchedule (n : Nat) (ls : List TraceLine) : List HostAct :=
  linesSchedule n (ls.flatMap expandLine)

/-- The event words of expanded lines, in order (spec 30 R69). -/
def lineWords : List TraceLine → List EventWord
  | [] => []
  | .ev i :: ls => encode i :: lineWords ls
  | _ :: ls => lineWords ls

/-- The encoding of a trace: its event words (spec 30 R69). -/
def traceWords (ls : List TraceLine) : List EventWord := lineWords (ls.flatMap expandLine)

/-- The byte lists of expanded MW lines, in order (spec 30 R69). -/
def lineWrites : List TraceLine → List (List Byte)
  | [] => []
  | .mw bytes :: ls => bytes :: lineWrites ls
  | _ :: ls => lineWrites ls

/-- The bytes a trace's MW lines contribute to its encoding (spec 30 R69). -/
def traceWrites (ls : List TraceLine) : List (List Byte) := lineWrites (ls.flatMap expandLine)

end Sys2Proof.Machine
end

