-- ==== Sys2Proof/Tests/Slice0.lean ====
section
/-! SUPPORT. Named tests. Expected values come from spec/95_test_vectors.md (V..), spec/opcode_table.json and the
rules; the witness theorems give each statement with hypotheses a state and operands that meet them. -/

namespace Sys2Proof.Tests

open Sys2Proof.Machine

/-- The next state, or State.reset where there is none. -/
def after (o : Host.Outcome State Fault Refusal) : State :=
  match o with
  | .next s => s
  | .fault _ => State.reset
  | .refused _ => State.reset

def isNext (o : Host.Outcome State Fault Refusal) : Bool :=
  match o with
  | .next _ => true
  | .fault _ => false
  | .refused _ => false

/-- A booted machine: both buffers armed, events served (spec 70 R154). -/
def booted : State := { State.reset with boot := .running, wrArmed := true, rdArmed := true }

/-- The booted machine with three bytes in WB and a count on the port. -/
def holding (n : Nat) (b0 b1 b2 : Byte) (c : CtrlState) (e : Bool) : State :=
  { booted with wb := [(0, b0), (1, b1), (2, b2)], wrCountPort := n, ctrlState := c, errFlag := e }

/-! ## Well-formedness and decoding -/

/-- Ill formed: a raw word of four bits (R55). -/
theorem test_rawWordWf_refuses_8 : rawWordWf 8 = false := by decide
theorem test_rawWordWf_takes_7 : rawWordWf 7 = true := by decide
theorem test_decode_refuses_no_byte : decodeBytes [] = .error .noWord := by rfl
theorem test_decode_refuses_two_bytes : decodeBytes [0x01#8, 0x00#8] = .error .continuationWord := by rfl
theorem test_decode_refuses_bit_3 : decodeBytes [0b00001001#8] = .error .bitsAboveEvent := by rfl
theorem test_table_refuses_8 : decodeTableWord 8 8 = none := by decide

/- The encoding column of spec/opcode_table.json, bit by bit (ERR, RD, WR). -/
theorem test_decode_evNone : decodeEvent 0b000#3 = .evNone := by decide
theorem test_decode_evWr : decodeEvent 0b001#3 = .evWr := by decide
theorem test_decode_evRd : decodeEvent 0b010#3 = .evRd := by decide
theorem test_decode_evWrRd : decodeEvent 0b011#3 = .evWrRd := by decide
theorem test_decode_evErr : decodeEvent 0b100#3 = .evErr := by decide
theorem test_decode_evErrWr : decodeEvent 0b101#3 = .evErrWr := by decide
theorem test_decode_evErrRd : decodeEvent 0b110#3 = .evErrRd := by decide
theorem test_decode_evErrWrRd : decodeEvent 0b111#3 = .evErrWrRd := by decide
theorem test_table_word_6 : decodeTableWord 8 0x6 = some .evErrRd := by decide

/-- A placed word is the first instruction after reset. -/
theorem test_first_instruction_after_reset :
    isNext (step (State.reset.withFetchWord 8 0x1)) = true ∧
    (after (step (State.reset.withFetchWord 8 0x4))).errFlag = true := by decide

/-! ## Packet codec (V1 to V20) -/

theorem test_V1 : validate 3 (holding 3 0x01#8 0x80#8 0x17#8 .awaitingCommand false) = .ok 0x80#8 := by decide
theorem test_V2_unwritten : validate 0 State.reset = .invalid := by decide
theorem test_V4 : validate 4 (holding 4 0x01#8 0x80#8 0x17#8 .awaitingCommand false) = .invalid := by decide
theorem test_V6 : validate 3 (holding 3 0x01#8 0xFF#8 0x17#8 .awaitingCommand false) = .ok 0xFF#8 := by decide
theorem test_V8 : validate 3 (holding 3 0x01#8 0x17#8 0x17#8 .awaitingCommand false) = .ok 0x17#8 := by decide
theorem test_V9 : validate 3 (holding 3 0x17#8 0x80#8 0x01#8 .awaitingCommand false) = .invalid := by decide
theorem test_V13 : validate 3 (holding 3 0x81#8 0x80#8 0x17#8 .awaitingCommand false) = .invalid := by decide
theorem test_V14 : validate 3 (holding 3 0x01#8 0x80#8 0x97#8 .awaitingCommand false) = .invalid := by decide
theorem test_V19_V20 : encodeReply .awaitingCommand = ⟨0x01#8, 0xFF#8, 0x17#8⟩ ∧
    encodeReply .commandReady = ⟨0x01#8, 0x00#8, 0x17#8⟩ := by decide

/-! ## The eight event words (V25 to V45) -/

theorem test_V26 : let t := after (exec .evNone (holding 3 0x01#8 0x5A#8 0x17#8 .commandReady true))
    t.ctrlState = .commandReady ∧ t.errFlag = true ∧ t.actions = [] := by decide
theorem test_V27 : let t := after (exec .evWr (holding 3 0x01#8 0x5A#8 0x17#8 .awaitingCommand false))
    t.ctrlState = .commandReady ∧ t.actions = [.apply 0x5A#8, .rearmWrite] ∧ t.cmp = 0x5A#8 := by decide
theorem test_V30 : let t := after (exec .evWr (holding 2 0x01#8 0x5A#8 0x17#8 .commandReady false))
    t.ctrlState = .commandReady ∧ t.actions = [.rearmWrite] := by decide
theorem test_V32 : let t := after (exec .evRd (holding 3 0x01#8 0x5A#8 0x17#8 .commandReady false))
    t.ctrlState = .awaitingCommand ∧ t.actions = [.rearmRead] := by decide
theorem test_V33 : let t := after (exec .evWrRd (holding 3 0x01#8 0x5A#8 0x17#8 .awaitingCommand false))
    t.ctrlState = .awaitingCommand ∧ t.actions = [.apply 0x5A#8, .rearmWrite, .rearmRead] := by decide
theorem test_V34 : let t := after (exec .evWrRd (holding 2 0x01#8 0x5A#8 0x17#8 .commandReady false))
    t.ctrlState = .awaitingCommand ∧ t.actions = [.rearmWrite, .rearmRead] := by decide
theorem test_V36 : let t := after (exec .evErr (holding 3 0x01#8 0x5A#8 0x17#8 .commandReady true))
    t.ctrlState = .commandReady ∧ t.errFlag = true ∧ t.actions = [.signalError] := by decide
theorem test_V37 : let t := after (exec .evErrWr (holding 3 0x01#8 0x5A#8 0x17#8 .awaitingCommand false))
    t.ctrlState = .awaitingCommand ∧ t.errFlag = true ∧ t.actions = [.signalError, .rearmWrite] := by decide
theorem test_V39 : let t := after (exec .evErrRd (holding 3 0x01#8 0x5A#8 0x17#8 .commandReady false))
    t.ctrlState = .awaitingCommand ∧ t.errFlag = true ∧ t.actions = [.signalError, .rearmRead] := by decide
theorem test_V40 : let t := after (exec .evErrWrRd (holding 3 0x01#8 0x5A#8 0x17#8 .commandReady false))
    t.ctrlState = .awaitingCommand ∧ t.errFlag = true ∧
      t.actions = [.signalError, .rearmWrite, .rearmRead] := by decide
theorem test_V44 : let t := stepEvent true 0b111#3 (holding 3 0x01#8 0x5A#8 0x17#8 .commandReady false)
    t.ctrlState = .commandReady ∧ t.errFlag = true ∧ t.actions = [.signalError] := by decide

/-! ## Host actions and reset (V46 to V57) -/

theorem test_V53 : let t := after (masterWrite [0x01#8, 0x80#8, 0x17#8] booted)
    t.readWB 0 = 0x01#8 ∧ t.readWB 1 = 0x80#8 ∧ t.readWB 2 = 0x17#8 ∧ t.wrArmed = false ∧
      t.wrPend = some 3 := by decide
theorem test_V54 : let t := after (masterWrite [0xAA#8] (holding 0 0x01#8 0x80#8 0x17#8 .awaitingCommand false))
    t.readWB 0 = 0xAA#8 ∧ t.readWB 1 = 0x80#8 ∧ t.readWB 2 = 0x17#8 ∧ t.wrPend = some 1 := by decide
theorem test_V55 : let t := after (masterWrite [0x01#8, 0x80#8, 0x17#8, 0x00#8] booted)
    t.wb = [] ∧ t.wrArmed = false ∧ t.wrPend = some 4 := by decide
theorem test_V56 : masterWrite [0x01#8, 0x80#8, 0x17#8] State.reset = .fault .masterWriteNotEnabled := by rfl
theorem test_V57 : let t := after (masterRead 3 (holding 0 0x01#8 0x80#8 0x17#8 .commandReady false))
    t.lastReply = some ⟨0x01#8, 0x00#8, 0x17#8⟩ ∧ t.rdArmed = false ∧ t.rdPend = true ∧
      t.ctrlState = .commandReady := by decide
theorem test_V49_consume_twice : let s := holding 0 0x01#8 0x80#8 0x17#8 .awaitingCommand true
    s.consumeFlag.lastPoll = some true ∧ s.consumeFlag.consumeFlag.lastPoll = some true := by decide
theorem test_V51_V50 : let t := after (blockReset { holding 3 0x01#8 0x80#8 0x17#8 .commandReady true with cmp := 0x80#8 })
    t.ctrlState = .awaitingCommand ∧ t.errFlag = false ∧ t.cmp = 0x80#8 ∧ t.actions = [] ∧
      t.consumeFlag.lastPoll = some false := by decide

/-- The encoding of program P5's text (95, section 3): words 001, 000, 001, 010. -/
theorem test_trace_words_P5 :
    traceWords [.reset, .cmd 0x7F#8, .ev .evNone, .cmd 0x7F#8, .poll] = [0b001#3, 0b000#3, 0b001#3, 0b010#3] := by
  decide
/-- The count of an EV line is that of the last MW since the last write re-arm, or 0 (R67). -/
theorem test_trace_counts :
    traceSchedule 0 [.mw [0x01#8, 0x55#8], .ev .evWr, .ev .evErrWr] =
      [.masterWrite [0x01#8, 0x55#8], .event 0b001#3 2, .event 0b101#3 0] := by decide

/-! ## Witnesses: states and operands that meet the hypotheses of the statements -/

/-- An accepted frame, at the extreme payload 0xFF. -/
abbrev okState : State := holding 3 0x01#8 0xFF#8 0x17#8 .awaitingCommand false
/-- A dropped frame: its end marker is off by one. -/
abbrev badState : State := holding 3 0x01#8 0xFF#8 0x16#8 .commandReady true

theorem wit_FrameConstants : validate 3 okState = .ok 0xFF#8 ∧ isNext (masterRead 3 okState) = true := by decide
theorem wit_DecodeOfEncode : Instr.wf .evErrWrRd = true := by decide
theorem wit_RawBytes : 8 ≤ (0x08#8).toNat ∧ (0x07#8).toNat < 8 := by decide
theorem wit_StatusFollows : okState.ctrlState = .awaitingCommand ∧ badState.ctrlState = .commandReady := by decide
theorem wit_ValidateReads : (2 : Nat) ≠ 3 ∧ (4 : Nat) ≠ 3 ∧
    ∀ a : Fin 3, okState.readWB a = { okState with errFlag := true }.readWB a := by decide
theorem wit_EvWr : validate okState.wrCountPort okState = .ok 0xFF#8 ∧
    validate badState.wrCountPort badState = .invalid := by decide
theorem wit_exec_next : ∃ t, exec .evWrRd okState = .next t := ⟨_, rfl⟩
theorem wit_ErrorWords : evtErr 0b100#3 = true ∧ evtErr 0b011#3 = false ∧
    (evtErr 0b111#3 = true ∧ evtWr 0b111#3 = true ∧ evtRd 0b111#3 = true) ∧
    (evtErr 0b101#3 = true ∧ evtWr 0b101#3 = true ∧ evtRd 0b101#3 = false) := by decide
theorem wit_WritePart : (∃ t u, exec .evWr okState = .next t ∧ exec .evRd t = .next u) ∧
    (∃ t u, exec .evErrWr okState = .next t ∧ exec .evRd t = .next u) ∧
    evtWr 0b011#3 = true ∧ evtRd 0b011#3 = true := ⟨⟨_, _, rfl, rfl⟩, ⟨_, _, rfl, rfl⟩, rfl, rfl⟩
theorem wit_ErrorPart : (∃ t u, exec .evErr okState = .next t ∧ exec .evRd t = .next u) ∧
    evtErr 0b110#3 = true := ⟨⟨_, _, rfl, rfl⟩, rfl⟩
theorem wit_Framed : okState.wrCountPort = 3 ∧ okState.readWB 0 = 0x01#8 ∧ okState.readWB 2 = 0x17#8 := by decide
theorem wit_Dropped : (holding 4 0x01#8 0x00#8 0x17#8 .awaitingCommand false).wrCountPort ≠ 3 ∧
    (holding 3 0x00#8 0x00#8 0x17#8 .awaitingCommand false).readWB 0 ≠ 0x01#8 ∧
    badState.readWB 2 ≠ 0x17#8 := by decide
theorem wit_OneApply : ∃ t, exec .evWr okState = .next t := ⟨_, rfl⟩
theorem wit_Frames : (∃ t, exec .evNone badState = .next t) ∧ (∃ t, exec .evErrWr badState = .next t) ∧
    (∃ t, exec .evRd badState = .next t) ∧ (∃ t, exec .evErrRd badState = .next t) ∧
    ∃ t, exec .evWr badState = .next t := ⟨⟨_, rfl⟩, ⟨_, rfl⟩, ⟨_, rfl⟩, ⟨_, rfl⟩, ⟨_, rfl⟩⟩

/-- A booted machine with something to do. -/
def doing (l : List HostAct) : State := booted.setSchedule l

theorem wit_StepRuns : (doing [.event 0b111#3 0]).boot = .running ∧
    (doing [.event 0b111#3 0]).schedule = .event 0b111#3 0 :: [] := by decide
theorem wit_Idle : (doing []).schedule = [] ∧ isNext (step (doing [])) = true := by decide
theorem wit_NoEvent : (State.reset.setSchedule [.event 0b001#3 3]).boot ≠ .running ∧
    (State.reset.setSchedule [.consume]).boot ≠ .running ∧
    (let s := (State.reset.setBoot .failed).setSchedule [.reset]
     s.boot = .failed ∧ machineInv s = true ∧ s.ctrlState = .awaitingCommand ∧ s.errFlag = false ∧
       isNext (step s) = true ∧ ∀ ok rest, s.schedule ≠ .bringUp ok :: rest) :=
  ⟨by decide, by decide, rfl, rfl, rfl, rfl, rfl, fun _ _ h => by cases h⟩
/-- R154 step 5 and R155: no poll right after reset, none after a failed bring-up, one when events are served. -/
theorem test_poll_only_after_boot :
    step (State.reset.setSchedule [.consume]) = .fault .pollNotStarted ∧
    step ((State.reset.setBoot .failed).setSchedule [.consume]) = .fault .pollNotStarted ∧
    isNext (step (booted.setSchedule [.consume])) = true := ⟨rfl, rfl, rfl⟩
/-- Enabled with 0, 3 and 4 bytes, and not enabled. -/
theorem wit_MasterWrite : (doing []).wrArmed = true ∧ (doing []).wrPend = none ∧
    ([] : List Byte).length ≤ 3 ∧ ([0x01#8, 0x02#8, 0x03#8] : List Byte).length ≤ 3 ∧
    3 < ([0x01#8, 0x02#8, 0x03#8, 0x04#8] : List Byte).length ∧
    (doing [.masterWrite []]).schedule = .masterWrite [] :: [] ∧
    (State.reset.setSchedule [.masterWrite []]).wrArmed = false := by decide
theorem wit_MasterRead : (doing [.masterRead 3]).schedule = .masterRead 3 :: [] ∧
    (doing [.masterRead 3]).rdArmed = true ∧ (doing [.masterRead 3]).rdPend = false ∧
    (State.reset.setSchedule [.masterRead 3]).rdArmed = false := by decide
theorem wit_Consume_run : let s := ({ booted with errFlag := true }).setSchedule [.consume]
    s.errFlag = true ∧ Sys2Proof.core.run 0 s = .next s ∧ NoneBetween resetsNow s 0 0 ∧
      s.boot = .running ∧ s.schedule = .consume :: [] :=
  ⟨rfl, rfl, fun _ _ h => absurd h (by omega), rfl, rfl⟩
theorem wit_Transactions : (doing [.masterWrite []]).schedule = .masterWrite [] :: [] ∧
    (doing [.masterRead 2]).schedule = .masterRead 2 :: [] ∧ (2 : Nat) ≠ 3 := by decide
theorem wit_Consume_Reset : (doing [.consume]).boot = .running ∧
    (doing [.consume]).schedule = .consume :: [] ∧ (doing [.reset]).schedule = .reset :: [] := by decide
theorem wit_Boot : (doing [.bringUp true, .reset, .armBuffers, .registerHandler, .enableEvents]).schedule =
    [.bringUp true, .reset, .armBuffers, .registerHandler, .enableEvents] ++ [] := by decide
theorem wit_OneWriter : let s := doing [.masterRead 3]
    isNext (step s) = true ∧ eventNow s = none ∧ resetsNow s = false ∧
      (∀ bytes rest, s.schedule ≠ .masterWrite bytes :: rest) ∧ ∀ rest, s.schedule ≠ .bringUp true :: rest :=
  ⟨rfl, rfl, rfl, ⟨fun _ _ h => (by cases h), fun _ h => (by cases h)⟩⟩
theorem wit_OneWriter_bringUp : (doing [.bringUp true]).schedule = .bringUp true :: [] ∧
    isNext (step (doing [.bringUp true])) = true := by decide
theorem wit_Sticky : errsNow (doing [.event 0b100#3 0]) = true ∧
    isNext (step (doing [.event 0b100#3 0])) = true ∧ resetsNow (doing [.reset]) = true := by decide
theorem wit_Written : let s := doing [.masterWrite [0x01#8, 0x80#8, 0x17#8], .event 0b001#3 3]
    s.boot = .running ∧ s.wrArmed = true ∧ s.wrPend = none ∧ evtWr 0b001#3 = true ∧
      evtErr 0b001#3 = false ∧
      s.schedule = .masterWrite [0x01#8, 0x80#8, 0x17#8] :: .event 0b001#3 3 :: [] := by decide
/-- Both ends of the invariant: booted with the buffers armed, and reset with neither. -/
theorem wit_Invariant : machineInv (doing [.masterWrite [0x01#8]]) = true ∧
    isNext (step (doing [.masterWrite [0x01#8]])) = true ∧
    machineInv (State.reset.setSchedule [.armBuffers]) = true ∧
    isNext (step (State.reset.setSchedule [.armBuffers])) = true := by decide
theorem wit_Held : let s := { okState with wrPend := some 3 }.setSchedule [.masterRead 3]
    frameHeld s = true ∧ s.wrPend ≠ none ∧ resetsNow s = false ∧ isNext (step s) = true := by decide
/-- A dutiful event that has its frame inspected: count 3, all three bytes written. -/
theorem wit_Dutiful :
    dutiful ({ okState with wrPend := some 3, wrArmed := false }.setSchedule [.event 0b001#3 3]) = true := by decide
/-- A run that meets each side: an error since the start, and none. -/
theorem wit_Run : isNext (Sys2Proof.core.run 2 (doing [.event 0b100#3 0, .consume])) = true ∧
    (after (Sys2Proof.core.run 2 (doing [.event 0b100#3 0, .consume]))).errFlag = true := by decide
theorem wit_Ready : let s := { okState with wrPend := some 3 }.setSchedule [.event 0b001#3 3]
    acceptsNow s = true ∧ readsNow s = false ∧
      (after (Sys2Proof.core.run 1 s)).ctrlState = .commandReady := by decide
theorem wit_NoDone : let s := doing [.masterRead 3]
    s.ctrlState = .awaitingCommand ∧ Sys2Proof.core.run 0 s = .next s ∧
      NoneBetween (fun v => acceptsNow v && !readsNow v) s 0 0 ∧ isNext (step s) = true :=
  ⟨rfl, rfl, fun _ _ h => absurd h (by omega), rfl⟩

/-- The same after a step that accepts a frame in a word that also reports the read. -/
theorem wit_NoDone_combined : let s := okState.setSchedule [.event 0b011#3 3, .masterRead 3]
    s.ctrlState = .awaitingCommand ∧ acceptsNow s = true ∧ isNext (Sys2Proof.core.run 1 s) = true ∧
      NoneBetween (fun v => acceptsNow v && !readsNow v) s 0 1 ∧
      (after (Sys2Proof.core.run 2 s)).lastReply = some ⟨0x01#8, 0xFF#8, 0x17#8⟩ := by
  refine ⟨rfl, by decide, by decide, ?_, by decide⟩
  intro j _ hj sj h
  obtain rfl : j = 0 := by omega
  obtain rfl := Host.Outcome.next.inj h
  decide

end Sys2Proof.Tests
end

/-! SUPPORT. Proofs of the statements on the parameters (spec 00 section 4): what STEP comes to under each value of
P_ERR_GATES_ALL, and who carries the frame constants. -/

namespace Sys2Proof.Machine

/-! STEP under each value of P_ERR_GATES_ALL (spec 42 R91) -/

/-- With the parameter true, an error is all that a word with ERR reports. -/
theorem stepWork_true_of_err {e : EventWord} (he : evtErr e = true) (s : State) :
    stepWork true e s = errorPart s.startWork := by
  simp [stepWork, he]

/-- With the parameter false, a word with ERR still re-arms a reported write, uninspected, and still runs its read
part (spec 42 R101, R102). -/
theorem stepWork_false_of_err {e : EventWord} (he : evtErr e = true) (s : State) :
    stepWork false e s =
      { ctrl := if evtRd e then .awaitingCommand else s.ctrlState
        err := true
        acts := [.signalError] ++ (if evtWr e then [.rearmWrite] else [])
          ++ (if evtRd e then [.rearmRead] else []) } := by
  cases hw : evtWr e <;> cases hr : evtRd e <;>
    simp [stepWork, he, hw, hr, errorPart_eq, State.startWork, Work.emit, Work.goTo]

/-- Without ERR there is nothing for the parameter to gate. -/
theorem stepWork_gate_of_not_err {e : EventWord} (he : evtErr e = false) (g : Bool) (s : State) :
    stepWork g e s = stepWork false e s := by
  simp [stepWork, he]

theorem stepEvent_true_of_err {e : EventWord} (he : evtErr e = true) (s : State) :
    stepEvent true e s = { s with errFlag := true, actions := [.signalError] } := by
  simp [stepEvent, stepWork_true_of_err he, errorPart_eq, commit_eq, State.startWork, lastApplied]

theorem stepEvent_false_of_err {e : EventWord} (he : evtErr e = true) (s : State) :
    stepEvent false e s = { s with
      ctrlState := if evtRd e then .awaitingCommand else s.ctrlState
      errFlag := true
      wrArmed := s.wrArmed || evtWr e
      rdArmed := s.rdArmed || evtRd e
      actions := [.signalError] ++ (if evtWr e then [.rearmWrite] else [])
        ++ (if evtRd e then [.rearmRead] else []) } := by
  rw [stepEvent, stepWork_false_of_err he, commit_eq]
  cases evtWr e <;> cases evtRd e <;> simp [lastApplied]

theorem stepEvent_gate_of_not_err {e : EventWord} (he : evtErr e = false) (g : Bool) (s : State) :
    stepEvent g e s = stepEvent false e s := by
  simp only [stepEvent, stepWork_gate_of_not_err he g]

/-- Settles O25, from what STEP comes to with ERR under each value, and without it under both. -/
theorem errorGatingParameter : Obligations.ErrorGatingParameter :=
  ⟨rfl, fun _ s he => ⟨stepEvent_true_of_err he s, stepEvent_false_of_err he s⟩,
    fun _ s he => stepEvent_gate_of_not_err he true s⟩

/-! Frames in both directions -/

/-- A frame is accepted when it has the length and both markers, and the payload is then its middle byte
(spec 40 R72, R75 to R77). -/
theorem validate_eq_ok_iff (n : Nat) (s : State) (v : Byte) :
    validate n s = .ok v ↔
      n = 3 ∧ s.readWB 0 = 0x01#8 ∧ s.readWB 2 = 0x17#8 ∧ v = s.readWB 1 := by
  rw [validate_eq]
  split
  · next h => simp [h, eq_comm]
  · next h =>
    constructor
    · intro hv; cases hv
    · rintro ⟨hn, hsop, heop, -⟩; exact absurd ⟨hn, hsop, heop⟩ h

/-- Every reply is ENCODE_REPLY of the control state: the markers around the status (spec 10 R28, 40 R79). -/
theorem replyBuffer_eq_encodeReply (s : State) : s.replyBuffer = encodeReply s.ctrlState := rfl

/-- Settles O1: VALIDATE accepts only what has the markers, and RB holds them in every state. -/
theorem frameConstantsInBothDirections : Obligations.FrameConstantsInBothDirections := by
  refine ⟨rfl, rfl, rfl, rfl, rfl, rfl, ?accepted, ?markers, fun _ => rfl, rfl, rfl⟩
  case accepted =>
    intro n s v hv
    obtain ⟨hn, hsop, heop, -⟩ := (validate_eq_ok_iff n s v).1 hv
    exact ⟨hn, hsop, heop⟩
  case markers =>
    intro s
    rw [replyBuffer_eq_encodeReply]
    exact ⟨rfl, rfl⟩

end Sys2Proof.Machine

/-! SUPPORT. Proofs of the statements on the state (spec 10): STATUS and RB, what one turn does to CTRL_STATE and
ERR_FLAG, and what a run has done to them at its end. -/

namespace Sys2Proof.Machine

/-! STATUS and RB (spec 10 R23, R28) -/

/-- Settles O8, by the two control states. -/
theorem statusFollowsControlState : Obligations.StatusFollowsControlState := by
  intro s
  simp only [State.status]
  cases s.ctrlState with
  | awaitingCommand => simp [encStatus, Config.stsFail]
  | commandReady => simp [encStatus, Config.stsDone]

/-- Settles O9: the three bytes are RB's definition, read at its three positions. -/
theorem replyBufferLayout : Obligations.ReplyBufferLayout :=
  ⟨fun s => ⟨rfl, rfl, rfl, replyBuffer_eq_encodeReply s⟩, rfl, rfl⟩

/-! What STEP does to CTRL_STATE and ERR_FLAG (spec 42 R91, R111) -/

/-- Each row is STEP of its own word (spec 42 R91, R103 to R110). -/
theorem exec_eq_stepEvent (i : Instr) (s : State) :
    exec i s = .next (stepEvent Config.pErrGatesAll (encode i) s) := by
  cases i <;> rfl

/-- The row a word selects is the row of that word (spec 30 R66). -/
theorem encode_decodeEvent : ∀ e : EventWord, encode (decodeEvent e) = e := by decide

/-- What a delivered word runs is STEP of that word. -/
theorem exec_decodeEvent (e : EventWord) (s : State) :
    exec (decodeEvent e) s = .next (stepEvent Config.pErrGatesAll e s) := by
  rw [exec_eq_stepEvent, encode_decodeEvent]

@[simp] theorem inspectFrame_err (s : State) (w : Work) : (inspectFrame s w).err = w.err := by
  obtain ⟨v, -, h⟩ | ⟨-, h⟩ := inspectFrame_cases s w <;> rw [h]

/-- STEP sets the working error flag exactly with ERR, whatever the parameter. -/
theorem stepWork_err (g : Bool) (e : EventWord) (s : State) :
    (stepWork g e s).err = (s.errFlag || evtErr e) := by
  cases he : evtErr e with
  | true => cases g <;> simp [stepWork_true_of_err he, stepWork_false_of_err he, errorPart_eq]
  | false =>
    rw [stepWork_gate_of_not_err he]
    cases hr : evtRd e <;> cases hw : evtWr e <;>
      simp [stepWork, he, hr, hw, Work.emit, Work.goTo, State.startWork]

/-- Inspection leaves CommandReady when VALIDATE accepts, and the control state alone otherwise. -/
theorem inspectFrame_ctrl (s : State) (w : Work) :
    (inspectFrame s w).ctrl =
      if validate s.writeCount s = .invalid then w.ctrl else .commandReady := by
  obtain ⟨v, hv, h⟩ | ⟨hv, h⟩ := inspectFrame_cases s w <;> simp [hv, h]

/-- A word makes the block accept a frame when it has WR, not ERR, and VALIDATE accepts. -/
theorem acceptedPayload_isSome (e : EventWord) (n : Nat) (s : State) :
    (acceptedPayload e n s).isSome = true ↔
      evtWr e = true ∧ evtErr e = false ∧ validate n s ≠ .invalid := by
  unfold acceptedPayload
  cases evtWr e <;> cases evtErr e <;> cases validate n s <;> simp

/-- Which payload is accepted depends on the word, the count and WB alone. -/
theorem acceptedPayload_congr {e : EventWord} {n : Nat} {s t : State} (hw : s.wb = t.wb)
    (he : s.wbEpoch = t.wbEpoch) : acceptedPayload e n s = acceptedPayload e n t := by
  simp only [acceptedPayload, validate_congr hw he]

/-- STEP's control state: a read part ends in AwaitingCommand, an accepted frame otherwise in CommandReady. -/
theorem stepWork_ctrl (e : EventWord) (s : State) :
    (stepWork Config.pErrGatesAll e s).ctrl =
      if evtRd e then .awaitingCommand
      else if (acceptedPayload e s.writeCount s).isSome then .commandReady else s.ctrlState := by
  simp only [acceptedPayload_isSome, Config.pErrGatesAll]
  cases he : evtErr e with
  | true => simp [stepWork_false_of_err he]
  | false =>
    cases hr : evtRd e <;> cases hw : evtWr e <;>
      simp [stepWork, he, hr, hw, Work.emit, Work.goTo, State.startWork, inspectFrame_ctrl]

@[simp] theorem commit_ctrlState (s : State) (w : Work) : (s.commit w).ctrlState = w.ctrl := by
  rw [commit_eq]

@[simp] theorem commit_errFlag (s : State) (w : Work) : (s.commit w).errFlag = w.err := by
  rw [commit_eq]

/-! What one turn does to the block's own registers (spec 10 R24, R25) -/

@[simp] theorem receiveBytes_ctrlState (s : State) (bs : List Byte) :
    (s.receiveBytes bs).ctrlState = s.ctrlState := by rw [receiveBytes_eq]

@[simp] theorem receiveBytes_errFlag (s : State) (bs : List Byte) :
    (s.receiveBytes bs).errFlag = s.errFlag := by rw [receiveBytes_eq]

@[simp] theorem receiveBytes_actions (s : State) (bs : List Byte) :
    (s.receiveBytes bs).actions = s.actions := by rw [receiveBytes_eq]

/-- A turn delivers an event word and is STEP of it, or is RESET, or leaves the block's own registers alone. -/
theorem step_block_cases {s t : State} (h : step s = .next t) :
    (∃ e n rest, eventNow s = some (e, n) ∧ resetsNow s = false ∧
        t = stepEvent Config.pErrGatesAll e ((s.setSchedule rest).present e n)) ∨
      (eventNow s = none ∧ resetsNow s = true ∧
        t.ctrlState = .awaitingCommand ∧ t.errFlag = false ∧ t.actions = []) ∨
      (eventNow s = none ∧ resetsNow s = false ∧
        t.ctrlState = s.ctrlState ∧ t.errFlag = s.errFlag ∧ t.actions = s.actions) := by
  obtain ⟨hs, rfl⟩ | ⟨act, rest, hs, ⟨e, n, rfl, hb, h⟩ | hact⟩ := step_cases h
  · exact .inr (.inr (by simp [eventNow, resetsNow, hs]))
  · rw [exec_decodeEvent] at h
    exact .inl ⟨e, n, rest, by simp [eventNow, hs, hb], by simp [resetsNow, hs],
      (Host.Outcome.next.inj h).symm⟩
  · obtain ⟨bytes, rfl, h⟩ | ⟨len, rfl, h⟩ | ⟨rfl, h⟩ | ⟨rfl, h⟩ | ⟨ok, rfl, h⟩ | ⟨rfl, h⟩ |
      ⟨rfl, h⟩ | ⟨rfl, h⟩ := hact
    pick_goal 4
    · obtain rfl := Host.Outcome.next.inj ((blockReset_eq _).symm.trans h)
      exact .inr (.inl (by simp [eventNow, resetsNow, hs]))
    all_goals refine .inr (.inr ⟨by simp [eventNow, hs], by simp [resetsNow, hs], ?_⟩)
    · obtain ⟨-, -, rfl⟩ := masterWrite_next h; simp
    · obtain ⟨-, -, -, rfl⟩ := masterRead_next h; simp
    · obtain ⟨-, rfl⟩ := pollFlag_next h; simp
    · obtain rfl := Host.Outcome.next.inj ((bringUp_eq _ _).symm.trans h)
      cases ok <;> simp
    · obtain ⟨-, rfl⟩ := armBuffers_next h; simp
    · obtain ⟨-, rfl⟩ := registerHandler_next h; simp
    · obtain ⟨-, rfl⟩ := enableEvents_next h; simp

/-- Settles O51: STEP sets the flag with ERR and keeps it otherwise, RESET clears it, no other turn writes it. -/
theorem errorFlagIsSticky : Obligations.ErrorFlagIsSticky := by
  intro s t h
  obtain ⟨e, n, rest, hev, hrs, rfl⟩ | ⟨hev, hrs, -, herr, -⟩ | ⟨hev, hrs, -, herr, -⟩ :=
    step_block_cases h
  · simp [errsNow, hev, hrs, stepEvent, stepWork_err, or_comm]
  · simp [errsNow, hev, hrs, herr]
  · simp [errsNow, hev, hrs, herr]

/-- One turn leaves CommandReady exactly when it accepts a frame and runs no read part, or CommandReady stood and
the turn neither runs a read part nor is RESET. -/
theorem step_ctrlState_eq_commandReady_iff {s t : State} (h : step s = .next t) :
    t.ctrlState = .commandReady ↔
      (acceptsNow s && !readsNow s) = true ∨
        (s.ctrlState = .commandReady ∧ (readsNow s || resetsNow s) = false) := by
  obtain ⟨e, n, rest, hev, hrs, rfl⟩ | ⟨hev, hrs, hctrl, -, -⟩ | ⟨hev, hrs, hctrl, -, -⟩ :=
    step_block_cases h
  · have hreads : readsNow s = evtRd e := by simp [readsNow, hev, Config.pErrGatesAll]
    have haccepts : acceptsNow s =
        (acceptedPayload e n ((s.setSchedule rest).present e n)).isSome := by
      rw [acceptedPayload_congr (s := (s.setSchedule rest).present e n) (t := s) rfl rfl]
      simp [acceptsNow, hev]
    rw [hreads, hrs, stepEvent, commit_ctrlState, stepWork_ctrl]
    simp only [State.writeCount, State.present_wrCountPort, State.present_ctrlState,
      State.setSchedule_ctrlState, ← haccepts]
    by_cases hr : evtRd e = true <;> by_cases ha : acceptsNow s = true <;> simp [hr, ha]
  · simp [acceptsNow, readsNow, hev, hrs, hctrl]
  · simp [acceptsNow, readsNow, hev, hrs, hctrl]

/-! What a run has done at its end (spec 10 R36, R37) -/

/-- One more turn, from `u`, is one more turn that may not satisfy `q`. -/
theorem noneBetween_succ {q : State → Bool} {s u : State} {i k : Nat} (hik : i ≤ k)
    (hu : Sys2Proof.core.run k s = .next u) :
    NoneBetween q s i (k + 1) ↔ NoneBetween q s i k ∧ q u = false := by
  constructor
  · intro h
    exact ⟨fun j hi hj => h j hi (by omega), h k hik (by omega) u hu⟩
  · rintro ⟨h, hq⟩ j hi hj sj hsj
    obtain hlt | rfl : j < k ∨ j = k := by omega
    · exact h j hi hlt sj hsj
    · rwa [← Host.Outcome.next.inj (hu.symm.trans hsj)]

/-- With one more turn, from `u`, the last `p` is that turn, or one before it that `u`'s `q` does not end. -/
theorem lastBefore_succ {p q : State → Bool} {s u : State} {k : Nat}
    (hu : Sys2Proof.core.run k s = .next u) :
    LastBefore p q s (k + 1) ↔ p u = true ∨ (LastBefore p q s k ∧ q u = false) := by
  constructor
  · rintro ⟨i, si, hi, hsi, hp, hnone⟩
    obtain hlt | rfl : i < k ∨ i = k := by omega
    · obtain ⟨hnone, hq⟩ := (noneBetween_succ hlt hu).1 hnone
      exact .inr ⟨⟨i, si, hlt, hsi, hp, hnone⟩, hq⟩
    · rw [Host.Outcome.next.inj (hu.symm.trans hsi)]
      exact .inl hp
  · rintro (hp | ⟨⟨i, si, hi, hsi, hp, hnone⟩, hq⟩)
    · exact ⟨k, u, by omega, hu, hp, fun j hj hj' => absurd hj' (by omega)⟩
    · exact ⟨i, si, by omega, hsi, hp, (noneBetween_succ hi hu).2 ⟨hnone, hq⟩⟩

/-- A latch over runs: what every turn sets exactly with `p` and otherwise clears exactly with `q` holds at the end
of a run exactly when the last `p` came after every `q`, or it held at the start and no `q` came. -/
theorem latch_run {P : State → Prop} {p q : State → Bool}
    (hstep : ∀ u t, step u = .next t → (P t ↔ p u = true ∨ (P u ∧ q u = false)))
    (k : Nat) (s t : State) (h : Sys2Proof.core.run k s = .next t) :
    P t ↔ LastBefore p q s k ∨ (P s ∧ NoneBetween q s 0 k) := by
  induction k generalizing t with
  | zero =>
    obtain rfl := Host.Outcome.next.inj h
    simp [LastBefore, NoneBetween]
  | succ k ih =>
    obtain ⟨u, hu, hut⟩ := (run_snoc k s t).1 h
    rw [hstep u t hut, ih u hu, lastBefore_succ hu, noneBetween_succ (Nat.zero_le k) hu]
    tauto

/-- Settles O58: the error flag is a latch that ERR sets and RESET clears. -/
theorem errorFlagIffErrorSinceReset : Obligations.ErrorFlagIffErrorSinceReset :=
  latch_run (P := fun u => u.errFlag = true) errorFlagIsSticky

/-- Settles O59: CommandReady is a latch that an accepted frame sets and a read part or RESET clears. -/
theorem readyIffAcceptedSinceReadOrReset : Obligations.ReadyIffAcceptedSinceReadOrReset :=
  latch_run (P := fun u => u.ctrlState = .commandReady) fun _ _ => step_ctrlState_eq_commandReady_iff

end Sys2Proof.Machine

/-! SUPPORT. Proofs of the statements on the encoding (spec 30): the opcode map, the two replies, and what becomes
of a frame candidate that is not accepted. -/

namespace Sys2Proof.Machine

/-! The opcode map (spec 30 R62, R66) -/

/-- The word of a row selects that row. -/
theorem decodeEvent_encode (i : Instr) : decodeEvent (encode i) = i := by
  cases i <;> rfl

/-- Settles O4: decoding and encoding are each other's inverse. -/
theorem decodingSelectsExactlyOneRow : Obligations.DecodingSelectsExactlyOneRow := by
  intro e i
  constructor
  · rintro rfl; exact encode_decodeEvent e
  · rintro rfl; exact decodeEvent_encode i

/-! The two replies (spec 30 R65) -/

/-- Settles O10: a reply is ENCODE_REPLY of one of the two control states, and a state may be in either. -/
theorem exactlyTwoReplies : Obligations.ExactlyTwoReplies := by
  refine ⟨?eitherReply, ⟨{ State.reset with ctrlState := .commandReady }, rfl⟩, ⟨State.reset, rfl⟩⟩
  case eitherReply =>
    intro s
    rw [replyBuffer_eq_encodeReply]
    cases s.ctrlState with
    | awaitingCommand => exact .inr rfl
    | commandReady => exact .inl rfl

/-! Dropped candidates (spec 30 R64, 42 R96) -/

/-- A candidate is invalid when its length or one of its markers is wrong (spec 40 R72, R75, R76). -/
theorem validate_eq_invalid_iff (n : Nat) (s : State) :
    validate n s = .invalid ↔ n ≠ 3 ∨ s.readWB 0 ≠ 0x01#8 ∨ s.readWB 2 ≠ 0x17#8 := by
  rw [validate_eq]
  split
  · next h => simp [h]
  · next h => simpa only [true_iff, not_and_or] using h

/-- The write part of a dropped candidate only re-arms (spec 42 R96, R99). -/
theorem writePart_of_invalid {s : State} (h : validate s.writeCount s = .invalid) (w : Work) :
    writePart s w = w.emit .rearmWrite := by
  simp only [writePart, inspectFrame, h]

/-- EV_WR with a dropped candidate (spec 42 R104). -/
theorem exec_evWr_of_invalid {s : State} (h : validate s.wrCountPort s = .invalid) :
    exec .evWr s = .next { s with actions := [.rearmWrite], wrArmed := true } := by
  simp only [exec, execEvWr, writePart_of_invalid h]
  rfl

/-- EV_WR_RD with a dropped candidate (spec 42 R106). -/
theorem exec_evWrRd_of_invalid {s : State} (h : validate s.wrCountPort s = .invalid) :
    exec .evWrRd s = .next { s with
      ctrlState := .awaitingCommand, actions := [.rearmWrite, .rearmRead],
      wrArmed := true, rdArmed := true } := by
  simp only [exec, execEvWrRd, writePart_of_invalid h]
  rfl

/-- Settles O29: a wrong length or marker is what VALIDATE calls invalid, and both words' next states are then
known in full. -/
theorem droppedFrameChangesNothing : Obligations.DroppedFrameChangesNothing := by
  intro s hbad
  have hinvalid := (validate_eq_invalid_iff s.wrCountPort s).2 hbad
  exact ⟨⟨_, exec_evWr_of_invalid hinvalid, rfl, rfl, rfl, rfl⟩,
    ⟨_, exec_evWrRd_of_invalid hinvalid, rfl, rfl, rfl⟩⟩

end Sys2Proof.Machine

/-! SUPPORT. Proofs of the statements on the packet codec (spec 40): when VALIDATE succeeds, what it reads, and what
becomes of a frame candidate that it accepts. -/

namespace Sys2Proof.Machine

/-! VALIDATE (spec 40 R72 to R77) -/

/-- Settles O11, by VALIDATE's two outcomes. -/
theorem validateSucceedsIffFramed : Obligations.ValidateSucceedsIffFramed :=
  ⟨validate_eq_ok_iff, validate_eq_invalid_iff⟩

/-- VALIDATE sees of the state only what WB's bytes read as (spec 40 R74). -/
theorem validate_congr_readWB (n : Nat) {s t : State} (h : ∀ a, s.readWB a = t.readWB a) :
    validate n s = validate n t := by
  simp only [validate_eq, h]

/-- Settles O12: a wrong length is the first way to be invalid, and equal bytes give equal results. -/
theorem validateReadsBufferOnlyAtFrameLength : Obligations.ValidateReadsBufferOnlyAtFrameLength :=
  ⟨fun n s hn => (validate_eq_invalid_iff n s).2 (.inl hn), fun n _ _ h => validate_congr_readWB n h⟩

/-! Accepted candidates (spec 40 R77, 42 R95) -/

/-- The write part of an accepted candidate applies its payload, goes to CommandReady and re-arms (spec 42 R95,
R99). -/
theorem writePart_of_ok {s : State} {v : Byte} (h : validate s.writeCount s = .ok v) (w : Work) :
    writePart s w = ((w.applyPayload v).goTo .commandReady).emit .rearmWrite := by
  simp only [writePart, inspectFrame, h]

/-- EV_WR with an accepted candidate (spec 42 R104). -/
theorem exec_evWr_of_ok {s : State} {v : Byte} (h : validate s.wrCountPort s = .ok v) :
    exec .evWr s = .next { s with
      ctrlState := .commandReady, actions := [.apply v, .rearmWrite], cmp := v, wrArmed := true } := by
  simp only [exec, execEvWr, writePart_of_ok h]
  rfl

/-- Settles O28: VALIDATE accepts a framed candidate with WB[1] as payload, whatever it is, and EV_WR's next state is
then known in full, with Done as the status of CommandReady. -/
theorem framedPayloadIsAppliedAndDone : Obligations.FramedPayloadIsAppliedAndDone := by
  intro s hcount hsop heop
  have hok : validate s.wrCountPort s = .ok (s.readWB 1) :=
    (validate_eq_ok_iff _ _ _).2 ⟨hcount, hsop, heop, rfl⟩
  exact ⟨_, exec_evWr_of_ok hok, rfl, rfl, rfl, rfl⟩

end Sys2Proof.Machine

/-! SUPPORT. Proofs of the statements on the command executor (spec 41): what APPLY does, and how often a word's
action list holds it. -/

namespace Sys2Proof.Machine

/-! APPLY (spec 41 R84) -/

/-- Settles O13: APPLY is one emit, and the pulse output's part of it is one register write. -/
theorem applyForwardsThePayload : Obligations.ApplyForwardsThePayload :=
  ⟨fun _ _ => rfl, fun _ _ => rfl⟩

/-! The action list of a word (spec 42 R91, R111) -/

/-- A word without WR makes the block accept nothing. -/
theorem acceptedPayload_of_not_wr {e : EventWord} (h : evtWr e = false) (n : Nat) (s : State) :
    acceptedPayload e n s = none := by
  simp [acceptedPayload, h]

/-- A word with ERR makes the block accept nothing (spec 42 R101). -/
theorem acceptedPayload_of_err {e : EventWord} (h : evtErr e = true) (n : Nat) (s : State) :
    acceptedPayload e n s = none := by
  simp [acceptedPayload, h]

/-- A word with WR and without ERR has its frame inspected, and inspection emits APPLY of what is accepted. -/
theorem inspectFrame_acts {e : EventWord} (hw : evtWr e = true) (he : evtErr e = false)
    (s : State) (w : Work) :
    (inspectFrame s w).acts = w.acts ++ (acceptedPayload e s.writeCount s).toList.map .apply := by
  obtain ⟨v, hv, h⟩ | ⟨hv, h⟩ := inspectFrame_cases s w <;>
    simp [h, acceptedPayload, hw, he, hv]

/-- STEP's action list, in its order: the error signal, APPLY of the accepted payload, the two re-arms. -/
theorem stepWork_acts (e : EventWord) (s : State) :
    (stepWork Config.pErrGatesAll e s).acts =
      (if evtErr e then [.signalError] else [])
        ++ (acceptedPayload e s.writeCount s).toList.map .apply
        ++ (if evtWr e then [.rearmWrite] else []) ++ (if evtRd e then [.rearmRead] else []) := by
  rw [Config.pErrGatesAll]
  cases he : evtErr e with
  | true => simp [stepWork_false_of_err he, acceptedPayload_of_err he]
  | false =>
    cases hw : evtWr e with
    | true =>
      cases hr : evtRd e <;>
        simp [stepWork, he, hw, hr, Work.emit, Work.goTo, State.startWork, inspectFrame_acts hw he]
    | false =>
      cases hr : evtRd e <;>
        simp [stepWork, he, hw, hr, Work.emit, Work.goTo, State.startWork,
          acceptedPayload_of_not_wr hw]

/-! One APPLY per accepted frame (spec 41 R85) -/

/-- STEP emits APPLY of the accepted payload once, and of nothing else. -/
theorem stepWork_count_apply (e : EventWord) (s : State) (v : Byte) :
    (stepWork Config.pErrGatesAll e s).acts.count (.apply v) =
      if acceptedPayload e s.writeCount s = some v then 1 else 0 := by
  rw [stepWork_acts]
  cases acceptedPayload e s.writeCount s <;> simp [apply_ite (List.count _), List.count_cons]

/-- Of two action lists in a row, the second starts from the compare value that the first leaves. -/
theorem lastApplied_append (as bs : List Action) (v : Byte) :
    lastApplied (as ++ bs) v = lastApplied bs (lastApplied as v) := by
  induction as generalizing v with
  | nil => rfl
  | cons a as ih => cases a <;> exact ih _

/-- The compare value that STEP's action list leaves is the accepted payload, if there is one. -/
theorem lastApplied_stepWork (e : EventWord) (s : State) (u : Byte) :
    lastApplied (stepWork Config.pErrGatesAll e s).acts u =
      (acceptedPayload e s.writeCount s).getD u := by
  rw [stepWork_acts]
  cases acceptedPayload e s.writeCount s <;>
    simp [lastApplied_append, apply_ite lastApplied, ite_apply, lastApplied]

/-- EV_WR on its own next state finds the same candidate and writes what already stands. -/
theorem exec_evWr_idempotent {s t : State} (h : exec .evWr s = .next t) : exec .evWr t = .next t := by
  cases hv : validate s.wrCountPort s with
  | ok v =>
    obtain rfl := Host.Outcome.next.inj ((exec_evWr_of_ok hv).symm.trans h)
    exact exec_evWr_of_ok ((validate_congr rfl rfl).trans hv)
  | invalid =>
    obtain rfl := Host.Outcome.next.inj ((exec_evWr_of_invalid hv).symm.trans h)
    exact exec_evWr_of_invalid ((validate_congr rfl rfl).trans hv)

/-- Settles O35: every word is STEP of itself, whose action list and compare value are known, and EV_WR repeated
changes nothing. -/
theorem oneApplyPerAcceptedFrame : Obligations.OneApplyPerAcceptedFrame := by
  refine ⟨fun e s => ⟨_, exec_decodeEvent e s, ?applies, ?compare⟩, fun _ _ => exec_evWr_idempotent⟩
  case applies =>
    intro v
    rw [stepEvent, commit_eq]
    exact stepWork_count_apply e s v
  case compare =>
    rw [stepEvent, commit_eq]
    exact lastApplied_stepWork e s s.cmp

end Sys2Proof.Machine

/-! SUPPORT. Proofs of the statements on the protocol controller (spec 42): the complete transition function, the rows
of the eight event words, and what the write, read and error bits do in every word. -/

namespace Sys2Proof.Machine

/-! The complete transition function (spec 42 R91, R111) -/

@[simp] theorem commit_actions (s : State) (w : Work) : (s.commit w).actions = w.acts := by
  rw [commit_eq]

@[simp] theorem commit_wrArmed (s : State) (w : Work) :
    (s.commit w).wrArmed = (s.wrArmed || decide (.rearmWrite ∈ w.acts)) := by
  simp [commit_eq]

@[simp] theorem commit_rdArmed (s : State) (w : Work) :
    (s.commit w).rdArmed = (s.rdArmed || decide (.rearmRead ∈ w.acts)) := by
  simp [commit_eq]

/-- Settles O24: every word is STEP of itself, whose three results are known. -/
theorem completeTransitionTable : Obligations.CompleteTransitionTable := by
  intro e s
  refine ⟨_, exec_decodeEvent e s, ?_⟩
  simp only [stepEvent, commit_ctrlState, commit_errFlag, commit_actions]
  exact ⟨stepWork_ctrl e s, stepWork_err _ e s, stepWork_acts e s⟩

/-- Settles O23: each row is STEP of its own word. -/
theorem everyWordRunsStep : Obligations.EveryWordRunsStep := exec_eq_stepEvent

/-! The rows of the eight words (spec 42 R103 to R110) -/

/-- A step that ends with part R leaves what it would leave without it, but for what part R writes. -/
theorem commit_readPart (s : State) (w : Work) :
    s.commit (readPart w) = { s.commit w with
      ctrlState := .awaitingCommand, actions := w.acts ++ [.rearmRead], rdArmed := true } := by
  simp [commit_eq, readPart_eq, lastApplied_append, lastApplied]

/-- Settles O15: an empty action list is carried out by doing nothing. -/
theorem evNoneHasNoEffect : Obligations.EvNoneHasNoEffect := fun _ => rfl

/-- Settles O16, by VALIDATE's two outcomes. -/
theorem evWrAcceptsOrDrops : Obligations.EvWrAcceptsOrDrops :=
  ⟨fun _ _ => exec_evWr_of_ok, fun _ => exec_evWr_of_invalid⟩

/-- Settles O17: part R after nothing else. -/
theorem evRdReturnsToAwaiting : Obligations.EvRdReturnsToAwaiting :=
  fun s => congrArg Host.Outcome.next (commit_readPart s s.startWork)

/-- EV_WR_RD with an accepted candidate (spec 42 R106). -/
theorem exec_evWrRd_of_ok {s : State} {v : Byte} (h : validate s.wrCountPort s = .ok v) :
    exec .evWrRd s = .next { s with
      ctrlState := .awaitingCommand, actions := [.apply v, .rearmWrite, .rearmRead], cmp := v,
      wrArmed := true, rdArmed := true } := by
  simp only [exec, execEvWrRd, writePart_of_ok h]
  rfl

/-- Settles O18, by VALIDATE's two outcomes. -/
theorem evWrRdAppliesThenReturnsToAwaiting : Obligations.EvWrRdAppliesThenReturnsToAwaiting :=
  ⟨fun _ _ => exec_evWrRd_of_ok, fun _ => exec_evWrRd_of_invalid⟩

/-- Settles O19: part E after nothing else, and the error signal is carried out by doing nothing. -/
theorem evErrSetsTheFlag : Obligations.EvErrSetsTheFlag := fun _ => rfl

/-- Settles O20: the row runs to its end without looking at the frame, and with the other parameter value part E is
all of STEP. -/
theorem evErrWrRearmsWithoutInspection : Obligations.EvErrWrRearmsWithoutInspection :=
  fun s => ⟨rfl, stepEvent_true_of_err rfl s⟩

/-- Settles O21: part R after part E, and with the other parameter value part E is all of STEP. -/
theorem evErrRdReturnsToAwaiting : Obligations.EvErrRdReturnsToAwaiting :=
  fun s => ⟨congrArg Host.Outcome.next (commit_readPart s (errorPart s.startWork)),
    stepEvent_true_of_err rfl s⟩

/-- Settles O22: part R after what EV_ERR_WR does, and with the other parameter value part E is all of STEP. -/
theorem evErrWrRdRearmsBothWithoutInspection : Obligations.EvErrWrRdRearmsBothWithoutInspection :=
  fun s => ⟨congrArg Host.Outcome.next (commit_readPart s ((errorPart s.startWork).emit .rearmWrite)),
    stepEvent_true_of_err rfl s⟩

/-! The read part (spec 42 R93, R94, R97) -/

/-- A step that ends with part R is the step without it followed by EV_RD, with the two action lists joined. -/
theorem next_commit_readPart {s t u : State} {w : Work}
    (ht : (.next (s.commit w) : Host.Outcome State Fault Refusal) = .next t)
    (hu : exec .evRd t = .next u) :
    (.next (s.commit (readPart w)) : Host.Outcome State Fault Refusal) =
      .next { u with actions := t.actions ++ u.actions } := by
  obtain rfl := Host.Outcome.next.inj ht
  obtain rfl := Host.Outcome.next.inj ((evRdReturnsToAwaiting _).symm.trans hu)
  rw [commit_readPart, commit_actions]

/-- A word with RD ends in AwaitingCommand, whatever else it reports. -/
theorem stepEvent_ctrlState_of_rd {e : EventWord} (hr : evtRd e = true) (s : State) :
    (stepEvent Config.pErrGatesAll e s).ctrlState = .awaitingCommand := by
  simp [stepEvent, stepWork_ctrl, hr]

/-- Settles O26: both combined words end their write word's step with part R. -/
theorem writePartRunsBeforeReadPart : Obligations.WritePartRunsBeforeReadPart :=
  ⟨fun _ _ _ => next_commit_readPart, fun _ _ _ => next_commit_readPart,
    fun e s _ hr => ⟨_, exec_decodeEvent e s, stepEvent_ctrlState_of_rd hr s⟩⟩

/-- STEP re-arms the read exactly with RD. -/
theorem rearmRead_mem_stepWork (e : EventWord) (s : State) :
    .rearmRead ∈ (stepWork Config.pErrGatesAll e s).acts ↔ evtRd e = true := by
  simp [stepWork_acts]

/-- Settles O30: STEP with RD ends in AwaitingCommand, which fixes the status and the reply, and emits the read re-arm
last. -/
theorem readCompletionResetsTheStatus : Obligations.ReadCompletionResetsTheStatus := by
  intro e s hr
  have hctrl := stepEvent_ctrlState_of_rd hr s
  refine ⟨_, exec_decodeEvent e s, hctrl, (statusFollowsControlState _).1 hctrl, ?reply, ?armed, ?last⟩
  case reply => rw [replyBuffer_eq_encodeReply, hctrl]; rfl
  case armed => simp [stepEvent, rearmRead_mem_stepWork, hr]
  case last => simp [stepEvent, stepWork_acts, hr]

/-! The write re-arm (spec 42 R99) -/

/-- STEP emits the write re-arm once with WR and never without. -/
theorem stepWork_count_rearmWrite (e : EventWord) (s : State) :
    (stepWork Config.pErrGatesAll e s).acts.count .rearmWrite = if evtWr e then 1 else 0 := by
  rw [stepWork_acts]
  cases acceptedPayload e s.writeCount s <;> simp [apply_ite (List.count _)]

/-- STEP re-arms the write exactly with WR. -/
theorem rearmWrite_mem_stepWork (e : EventWord) (s : State) :
    .rearmWrite ∈ (stepWork Config.pErrGatesAll e s).acts ↔ evtWr e = true := by
  simp [stepWork_acts]

/-- Settles O31: the write re-arm's place in STEP's action list, and the bit it sets. -/
theorem writeRearmedExactlyWhenWritten : Obligations.WriteRearmedExactlyWhenWritten := by
  intro e s
  refine ⟨_, exec_decodeEvent e s, ?_⟩
  simp only [stepEvent, commit_actions, commit_wrArmed]
  exact ⟨stepWork_count_rearmWrite e s, by simp [rearmWrite_mem_stepWork]⟩

/-! The error part (spec 42 R100 to R102) -/

/-- STEP emits the error signal once with ERR and never without. -/
theorem stepWork_count_signalError (e : EventWord) (s : State) :
    (stepWork Config.pErrGatesAll e s).acts.count .signalError = if evtErr e then 1 else 0 := by
  rw [stepWork_acts]
  cases acceptedPayload e s.writeCount s <;> simp [apply_ite (List.count _)]

/-- What a delivered word with ERR runs, in full (spec 42 R101, R102). -/
theorem exec_decodeEvent_of_err {e : EventWord} (he : evtErr e = true) (s : State) :
    exec (decodeEvent e) s = .next { s with
      ctrlState := if evtRd e then .awaitingCommand else s.ctrlState
      errFlag := true
      wrArmed := s.wrArmed || evtWr e
      rdArmed := s.rdArmed || evtRd e
      actions := [.signalError] ++ (if evtWr e then [.rearmWrite] else [])
        ++ (if evtRd e then [.rearmRead] else []) } := by
  rw [exec_decodeEvent, Config.pErrGatesAll, stepEvent_false_of_err he]

/-- Settles O32: the flag and the signal follow ERR in STEP, and with ERR no frame is accepted that could move the
control state. -/
theorem errorIsRecordedInEveryWord : Obligations.ErrorIsRecordedInEveryWord := by
  intro e s
  refine ⟨_, exec_decodeEvent e s, ?_⟩
  simp only [stepEvent, commit_ctrlState, commit_errFlag, commit_actions]
  refine ⟨?flag, stepWork_count_signalError e s, ?control⟩
  case flag => rw [stepWork_err, Bool.or_comm]
  case control =>
    intro he hr
    simp [stepWork_ctrl, acceptedPayload_of_err he, hr]

/-- Settles O33: the next state of a word with ERR is known in full, and neither WB nor the count stands in it. -/
theorem errorSuppressesInspection : Obligations.ErrorSuppressesInspection := by
  intro e s he hw
  refine ⟨_, exec_decodeEvent_of_err he s, rfl, ?noApply, ?rearmed, ?control,
    fun _ _ _ => exec_decodeEvent_of_err he _⟩
  case noApply => simp
  case rearmed => simp [hw]
  case control => intro hr; simp [hr]

/-- Settles O34: a word with ERR and RD ends with part R, and with the other parameter value part E is all of STEP. -/
theorem errorKeepsTheReadPart : Obligations.ErrorKeepsTheReadPart := by
  intro e s he hr
  refine ⟨⟨_, exec_decodeEvent_of_err he s, ?control, ?rearmed⟩, ?gated⟩
  case control => simp [hr]
  case rearmed => simp [hr]
  case gated => simp [stepEvent_true_of_err he]

end Sys2Proof.Machine

/-! SUPPORT. Proofs of the statements on the bus interface (spec 43): what a master write leaves in WB, and the two
transactions of the master in full. -/

namespace Sys2Proof.Machine

/-! WB after a master write (spec 43 R119) -/

/-- The bytes of a short write fill WB from its first cell on, and the other cells keep what they held. -/
theorem readWB_receiveBytes_of_length_le {bs : List Byte} (h : bs.length ≤ 3) (s : State) (a : Fin 3) :
    (s.receiveBytes bs).readWB a = (bs[a.val]?).getD (s.readWB a) := by
  have hfill : s.receiveBytes bs = { s with wb := fillWB bs 0 s.wb } := if_pos h
  simp only [hfill, State.readWB, read_fillWB]
  by_cases ha : a.val < bs.length <;> simp [ha]

/-- A write longer than WB leaves the bytes of a fresh draw. -/
theorem readWB_receiveBytes_of_lt_length {bs : List Byte} (h : 3 < bs.length) (s : State) (a : Fin 3) :
    (s.receiveBytes bs).readWB a = Config.wbByte (s.wbEpoch + 1) a.val := by
  have hdraw : s.receiveBytes bs = s.drawWB := if_neg (Nat.not_le.2 h)
  rw [hdraw]
  rfl

/-! The transactions of the master (spec 43 R119, R121) -/

/-- An enabled master write, in full. -/
theorem masterWrite_of_enabled {s : State} (ha : s.wrArmed = true) (hp : s.wrPend = none) (bs : List Byte) :
    masterWrite bs s = .next { s.receiveBytes bs with wrArmed := false, wrPend := some bs.length } := by
  simp [masterWrite, ha, hp, State.setWrArmed, State.setWrPend]

/-- An enabled master read of a whole reply, in full. -/
theorem masterRead_of_enabled {s : State} (ha : s.rdArmed = true) (hp : s.rdPend = false) :
    masterRead 3 s = .next { s with
      lastReply := some (encodeReply s.ctrlState), rdArmed := false, rdPend := true } := by
  simp [masterRead, Config.frameLen, ha, hp, State.takeReply, State.setRdArmed, State.setRdPend,
    replyBuffer_eq_encodeReply]

/-- Settles O43: an enabled write's next state is known in full, its WB by the write's length, and a write that answers
was enabled. -/
theorem masterWriteFillsTheFirstCells : Obligations.MasterWriteFillsTheFirstCells := by
  intro s bytes rest hs
  rw [step_masterWrite hs]
  refine ⟨?enabled, ?notEnabled⟩
  case enabled =>
    rintro ⟨ha, hp⟩
    refine ⟨_, masterWrite_of_enabled (s := s.setSchedule rest) ha hp bytes, ?short, ?long, ?frame⟩
    case short => exact fun hl => readWB_receiveBytes_of_length_le hl (s.setSchedule rest)
    case long => exact fun hl => readWB_receiveBytes_of_lt_length hl (s.setSchedule rest)
    case frame => rw [receiveBytes_eq]; rfl
  case notEnabled =>
    intro hn t ht
    obtain ⟨ha, hp, -⟩ := masterWrite_next ht
    exact hn ⟨ha, hp⟩

/-- Settles O44: an enabled read's next state is known in full, and a read that answers was enabled. -/
theorem masterReadReturnsTheReply : Obligations.MasterReadReturnsTheReply := by
  intro s rest hs
  rw [step_masterRead hs]
  refine ⟨fun ⟨ha, hp⟩ => masterRead_of_enabled ha hp, ?notEnabled⟩
  case notEnabled =>
    intro hn t ht
    obtain ⟨-, ha, hp, -⟩ := masterRead_next ht
    exact hn ⟨ha, hp⟩

end Sys2Proof.Machine

/-! SUPPORT. Proofs of the statements on the error flag (spec 60): that it stops nothing, and what the outer loop's poll
returns. -/

namespace Sys2Proof.Machine

/-! The flag does not enter STEP (spec 60 R143) -/

/-- With the flag set, the same payload is accepted: VALIDATE reads the count and WB alone. So STEP sets the same control
state and emits the same actions, and the flag stays set. -/
theorem stepEvent_of_errFlag_set (e : EventWord) (s : State) :
    stepEvent Config.pErrGatesAll e { s with errFlag := true } =
      { stepEvent Config.pErrGatesAll e s with errFlag := true } := by
  have hpayload : acceptedPayload e { s with errFlag := true }.writeCount { s with errFlag := true } =
      acceptedPayload e s.writeCount s := acceptedPayload_congr rfl rfl
  have hctrl : (stepWork Config.pErrGatesAll e { s with errFlag := true }).ctrl =
      (stepWork Config.pErrGatesAll e s).ctrl := by
    rw [stepWork_ctrl, stepWork_ctrl, hpayload]
  have hacts : (stepWork Config.pErrGatesAll e { s with errFlag := true }).acts =
      (stepWork Config.pErrGatesAll e s).acts := by
    rw [stepWork_acts, stepWork_acts, hpayload]
  simp only [stepEvent, commit_eq, hctrl, hacts, stepWork_err, Bool.true_or]

/-- Settles O36: every word is STEP of itself, which the flag does not enter. -/
theorem errorFlagDoesNotStopTheBlock : Obligations.ErrorFlagDoesNotStopTheBlock := fun i s =>
  ⟨_, exec_eq_stepEvent i s,
    (exec_eq_stepEvent i _).trans (congrArg Host.Outcome.next (stepEvent_of_errFlag_set _ s))⟩

/-! The poll of the flag (spec 60 R133, 70 R154) -/

/-- A poll while events are served, in full. -/
theorem step_consume_of_running {s : State} {rest : List HostAct} (hb : s.boot = .running)
    (hs : s.schedule = .consume :: rest) :
    step s = .next { s with lastPoll := some s.errFlag, schedule := rest } := by
  rw [step_consume hs]
  exact if_pos hb

/-- Settles O46: a poll is known in full, and the flag it returns is a latch that no turn but RESET clears. -/
theorem consumeReadsWithoutClearing : Obligations.ConsumeReadsWithoutClearing := by
  refine ⟨fun _ _ => step_consume_of_running, ?afterRun⟩
  case afterRun =>
    intro k s t rest herr hrun hnone hb hs
    have hflag : t.errFlag = true := (errorFlagIffErrorSinceReset k s t hrun).2 (.inr ⟨herr, hnone⟩)
    rw [step_consume_of_running hb hs, hflag]

end Sys2Proof.Machine

/-! SUPPORT. Proof of the statement on reset and hazards (spec 70): before a frame is accepted, every master read
returns Pending/Fail. -/

namespace Sys2Proof.Machine

/-- A run from AwaitingCommand ends there unless some step accepts a frame without running its own read part
(spec 10 R36): CommandReady at its end would name such a step. -/
theorem run_ctrlState_of_noneAccepted {k : Nat} {s t : State} (hs : s.ctrlState = .awaitingCommand)
    (hrun : Sys2Proof.core.run k s = .next t)
    (hnone : NoneBetween (fun v => acceptsNow v && !readsNow v) s 0 k) :
    t.ctrlState = .awaitingCommand := by
  cases hctrl : t.ctrlState with
  | awaitingCommand => rfl
  | commandReady =>
    obtain ⟨i, si, hi, hsi, hacc, -⟩ | ⟨hready, -⟩ :=
      (readyIffAcceptedSinceReadOrReset k s t hrun).1 hctrl
    · exact absurd hacc (by simp [hnone i (Nat.zero_le i) hi si hsi])
    · exact absurd (hs.symm.trans hready) (by decide)

/-- A master read that completes returns ENCODE_REPLY of the control state it finds (spec 43 R121). -/
theorem step_masterRead_lastReply {t u : State} {len : Nat} {rest : List HostAct}
    (hsched : t.schedule = .masterRead len :: rest) (h : step t = .next u) :
    u.lastReply = some (encodeReply t.ctrlState) := by
  rw [step_masterRead hsched] at h
  obtain ⟨-, -, -, rfl⟩ := masterRead_next h
  rfl

/-- Settles O60: the run is still in AwaitingCommand at its end, and the read returns that state's reply. -/
theorem noDoneBeforeAnAcceptedFrame : Obligations.NoDoneBeforeAnAcceptedFrame := by
  intro k s t u rest hs hrun hnone hsched hstep
  rw [step_masterRead_lastReply hsched hstep, run_ctrlState_of_noneAccepted hs hrun hnone]
  rfl

end Sys2Proof.Machine

/-! SUPPORT. Proofs of the statements on the encoding (spec 30): the bits of the event word, and which raw bytes and
table words are an instruction. -/

namespace Sys2Proof.Machine

/-! The event word (spec 30 R56, R62) -/

/-- Settles O2, for each of the eight words. -/
theorem eventWordBitPlaces : Obligations.EventWordBitPlaces := by
  unfold Obligations.EventWordBitPlaces
  decide

/-- Settles O3, by running the decoder on the four bytes. -/
theorem opcodeMapWords : Obligations.OpcodeMapWords := ⟨rfl, rfl, rfl, rfl⟩

/-! Raw bytes (spec 30 R55, R63, R66; log 14) -/

/-- A byte below 8 decodes as the event word of its low three bits. -/
theorem decodeBytes_singleton_of_lt {b : Byte} (h : b.toNat < 8) :
    decodeBytes [b] = .ok (decodeEvent (b.setWidth 3)) := by
  simp [decodeBytes, rawWordWf, h]

/-- A byte with a bit above the event word's three is rejected. -/
theorem decodeBytes_singleton_of_le {b : Byte} (h : 8 ≤ b.toNat) :
    decodeBytes [b] = .error .bitsAboveEvent := by
  simp [decodeBytes, rawWordWf, h]

/-- A byte below 8 is its low three bits with zeros above. -/
theorem setWidth_three_eq_iff {b : Byte} (h : b.toNat < 8) (e : EventWord) :
    b.setWidth 3 = e ↔ b = e.setWidth 8 := by
  constructor
  · rintro rfl; bv_omega
  · rintro rfl; bv_omega

/-- The bytes that decode to an instruction are its encoding in one byte, and nothing else. -/
theorem decodeBytes_eq_ok_iff (l : List Byte) (i : Instr) :
    decodeBytes l = .ok i ↔ l = [(encode i).setWidth 8] := by
  match l with
  | [] => simp [decodeBytes]
  | _ :: _ :: _ => simp [decodeBytes]
  | [b] =>
    obtain h | h := Nat.lt_or_ge b.toNat 8
    · rw [decodeBytes_singleton_of_lt h, Except.ok.injEq, decodingSelectsExactlyOneRow, eq_comm,
        setWidth_three_eq_iff h, List.singleton_inj]
    · have hne : b ≠ (encode i).setWidth 8 := by rintro rfl; bv_omega
      simp [decodeBytes_singleton_of_le h, hne]

/-- Settles O5: encoding an instruction and decoding the port or the byte gives it back. -/
theorem decodeOfEncode : Obligations.DecodeOfEncode :=
  fun i _ => ⟨decodeEvent_encode i, (decodeBytes_eq_ok_iff _ i).2 rfl⟩

/-- Settles O7, by the number of bytes and the size of a single one. -/
theorem rawBytesRejectedByName : Obligations.RawBytesRejectedByName := by
  refine ⟨rfl, fun _ _ _ => rfl, fun _ => decodeBytes_singleton_of_le, ?word⟩
  case word =>
    intro b hb
    refine ⟨_, decodeBytes_singleton_of_lt hb, ?_⟩
    rw [encode_decodeEvent]
    bv_omega

/-! Table words (spec 30 R62; log 14) -/

/-- A table word decodes when it fits its width and its whole bytes decode. -/
theorem decodeTableWord_eq_some_iff (nbits w : Nat) (i : Instr) :
    decodeTableWord nbits w = some i ↔
      w < 2 ^ nbits ∧ decodeBytes (bytesOf ((nbits + 7) / 8) w) = .ok i := by
  unfold decodeTableWord
  split
  · next h => cases decodeBytes (bytesOf ((nbits + 7) / 8) w) <;> simp [h]
  · next h => simp [h]

/-- Laying out a number in whole bytes gives one byte only where one is asked for. -/
theorem bytesOf_eq_singleton_iff (k w : Nat) (b : Byte) :
    bytesOf k w = [b] ↔ k = 1 ∧ BitVec.ofNat 8 w = b := by
  match k with
  | 0 => simp [bytesOf]
  | 1 => simp [bytesOf]
  | k + 2 => simp [bytesOf]

/-- A number of at most 8 bits is its byte's value. -/
theorem ofNat_eq_setWidth_iff {w : Nat} (h : w < 256) (e : EventWord) :
    BitVec.ofNat 8 w = e.setWidth 8 ↔ w = e.toNat := by
  constructor
  · intro he; bv_omega
  · rintro rfl; bv_omega

/-- Settles O6: the word's whole bytes must be the encoding's one byte, so there is one byte, and a number that fits
in 8 bits is that byte's value. -/
theorem tableWordDecodesIffItIsTheEncoding : Obligations.TableWordDecodesIffItIsTheEncoding := by
  intro nbits w i
  rw [decodeTableWord_eq_some_iff, decodeBytes_eq_ok_iff, bytesOf_eq_singleton_iff]
  have hwidth : (nbits + 7) / 8 = 1 ↔ 1 ≤ nbits ∧ nbits ≤ 8 := by omega
  have hbyte (hn : nbits ≤ 8) (hw : w < 2 ^ nbits) :
      BitVec.ofNat 8 w = (encode i).setWidth 8 ↔ w = (encode i).toNat :=
    ofNat_eq_setWidth_iff (hw.trans_le (Nat.pow_le_pow_right (by omega) hn)) _
  constructor
  · rintro ⟨hw, hk, he⟩
    obtain ⟨h1, h8⟩ := hwidth.1 hk
    exact ⟨h1, h8, hw, (hbyte h8 hw).1 he⟩
  · rintro ⟨h1, h8, hw, he⟩
    exact ⟨hw, hwidth.2 ⟨h1, h8⟩, (hbyte h8 hw).2 he⟩

end Sys2Proof.Machine

/-! SUPPORT. STEP of any word in one equation (spec 42 R91, R111), and what one turn of the execution can be (spec 20
R48), each with its whole next state. The statements on frames, on hosts and on invariants are derived from the two. -/

namespace Sys2Proof.Machine

/-! STEP in one equation (spec 42 R111) -/

/-- The whole next state of a word. -/
theorem stepEvent_eq (e : EventWord) (s : State) :
    stepEvent Config.pErrGatesAll e s = { s with
      ctrlState :=
        if evtRd e then .awaitingCommand
        else if (acceptedPayload e s.wrCountPort s).isSome then .commandReady else s.ctrlState
      errFlag := s.errFlag || evtErr e
      actions :=
        (if evtErr e then [.signalError] else [])
          ++ (acceptedPayload e s.wrCountPort s).toList.map .apply
          ++ (if evtWr e then [.rearmWrite] else []) ++ (if evtRd e then [.rearmRead] else [])
      cmp := (acceptedPayload e s.wrCountPort s).getD s.cmp
      wrArmed := s.wrArmed || evtWr e
      rdArmed := s.rdArmed || evtRd e } := by
  rw [stepEvent, commit_eq]
  simp only [stepWork_ctrl, stepWork_err, lastApplied_stepWork, List.elem_eq_mem,
    rearmWrite_mem_stepWork, rearmRead_mem_stepWork, Bool.decide_eq_true]
  rw [stepWork_acts]
  rfl

/-- The whole next state of a delivered word, with the payload it accepts named at the state before the turn. -/
theorem stepEvent_present (e : EventWord) (n : Nat) (rest : List HostAct) (s : State) :
    stepEvent Config.pErrGatesAll e ((s.setSchedule rest).present e n) = { s with
      schedule := rest
      evtPort := e
      wrCountPort := n
      wrPend := if evtWr e then none else s.wrPend
      rdPend := if evtRd e then false else s.rdPend
      ctrlState :=
        if evtRd e then .awaitingCommand
        else if (acceptedPayload e n s).isSome then .commandReady else s.ctrlState
      errFlag := s.errFlag || evtErr e
      actions :=
        (if evtErr e then [.signalError] else []) ++ (acceptedPayload e n s).toList.map .apply
          ++ (if evtWr e then [.rearmWrite] else []) ++ (if evtRd e then [.rearmRead] else [])
      cmp := (acceptedPayload e n s).getD s.cmp
      wrArmed := s.wrArmed || evtWr e
      rdArmed := s.rdArmed || evtRd e } := by
  have hpayload : acceptedPayload e n ((s.setSchedule rest).present e n) = acceptedPayload e n s :=
    acceptedPayload_congr rfl rfl
  rw [stepEvent_eq, State.present_wrCountPort, hpayload]
  rfl

/-! One turn (spec 20 R48) -/

/-- The turns that answer a next state: which agent moves, what enables it, and what it leaves. -/
inductive Moves (s : State) : State → Prop where
  /-- No agent acts (spec 60 R149). -/
  | idle (hs : s.schedule = []) : Moves s s
  /-- The block's step (spec 43 R122). -/
  | event {e : EventWord} {n : Nat} {rest : List HostAct} (hs : s.schedule = .event e n :: rest)
      (hb : s.boot = .running) :
      Moves s (stepEvent Config.pErrGatesAll e ((s.setSchedule rest).present e n))
  /-- MW (spec 43 R119). -/
  | masterWrite {bytes : List Byte} {rest : List HostAct} (hs : s.schedule = .masterWrite bytes :: rest)
      (ha : s.wrArmed = true) (hp : s.wrPend = none) :
      Moves s { s with
        wb := (s.receiveBytes bytes).wb, wbEpoch := (s.receiveBytes bytes).wbEpoch,
        wrArmed := false, wrPend := some bytes.length, schedule := rest }
  /-- MR (spec 43 R121). -/
  | masterRead {rest : List HostAct} (hs : s.schedule = .masterRead 3 :: rest)
      (ha : s.rdArmed = true) (hp : s.rdPend = false) :
      Moves s { s with
        lastReply := some (encodeReply s.ctrlState), rdArmed := false, rdPend := true, schedule := rest }
  /-- The poll (spec 60 R133). -/
  | consume {rest : List HostAct} (hs : s.schedule = .consume :: rest) (hb : s.boot = .running) :
      Moves s { s with lastPoll := some s.errFlag, schedule := rest }
  /-- RESET (spec 70 R151). -/
  | reset {rest : List HostAct} (hs : s.schedule = .reset :: rest) :
      Moves s { s with
        ctrlState := .awaitingCommand, errFlag := false, actions := [],
        wb := [], wbEpoch := s.wbEpoch + 1,
        boot := if s.boot = .broughtUp then .blockReset else s.boot, schedule := rest }
  /-- Boot step 1, with success (spec 70 R154). -/
  | bringUp {rest : List HostAct} (hs : s.schedule = .bringUp true :: rest) :
      Moves s { s with
        cmp := Config.cmpByte s.cmpEpoch, cmpEpoch := s.cmpEpoch + 1,
        pulsePeriod := Config.ledPeriod, pulseEnabled := true,
        wrArmed := false, rdArmed := false, wrPend := none, rdPend := false,
        boot := .broughtUp, schedule := rest }
  /-- Boot step 1, with failure (spec 70 R155). -/
  | bringUpFailed {rest : List HostAct} (hs : s.schedule = .bringUp false :: rest) :
      Moves s { s with
        wrArmed := false, rdArmed := false, wrPend := none, rdPend := false,
        boot := .failed, schedule := rest }
  /-- Boot step 3 (spec 70 R154). -/
  | armBuffers {rest : List HostAct} (hs : s.schedule = .armBuffers :: rest) (hb : s.boot = .blockReset) :
      Moves s { s with
        wrArmed := true, rdArmed := true, wrPend := none, rdPend := false,
        boot := .armed, schedule := rest }
  /-- Boot step 4 (spec 70 R154). -/
  | registerHandler {rest : List HostAct} (hs : s.schedule = .registerHandler :: rest)
      (hb : s.boot = .armed) : Moves s { s with boot := .registered, schedule := rest }
  /-- Boot step 5 (spec 70 R154). -/
  | enableEvents {rest : List HostAct} (hs : s.schedule = .enableEvents :: rest)
      (hb : s.boot = .registered) : Moves s { s with boot := .running, schedule := rest }

/-- What a master write leaves in WB does not depend on what the agents do after it. -/
theorem receiveBytes_setSchedule (s : State) (rest : List HostAct) (bytes : List Byte) :
    (s.setSchedule rest).receiveBytes bytes = (s.receiveBytes bytes).setSchedule rest := by
  unfold State.receiveBytes
  split <;> rfl

/-- MW's next state as `Moves` writes it. -/
theorem masterWrite_setSchedule {s : State} (ha : s.wrArmed = true) (hp : s.wrPend = none)
    (bytes : List Byte) (rest : List HostAct) :
    masterWrite bytes (s.setSchedule rest) = .next { s with
      wb := (s.receiveBytes bytes).wb, wbEpoch := (s.receiveBytes bytes).wbEpoch,
      wrArmed := false, wrPend := some bytes.length, schedule := rest } := by
  rw [masterWrite_of_enabled (s := s.setSchedule rest) ha hp, receiveBytes_setSchedule, receiveBytes_eq]
  rfl

/-- Every move is a turn of the model. -/
theorem Moves.step_eq {s t : State} (h : Moves s t) : step s = .next t := by
  cases h with
  | idle hs => exact step_idle hs
  | event hs hb => rw [step_event hs hb, exec_decodeEvent]
  | masterWrite hs ha hp => rw [step_masterWrite hs, masterWrite_setSchedule ha hp]
  | masterRead hs ha hp =>
    rw [step_masterRead hs]
    exact masterRead_of_enabled ha hp
  | consume hs hb => exact step_consume_of_running hb hs
  | reset hs => rw [step_reset hs, blockReset_eq]; rfl
  | bringUp hs => rw [step_bringUp hs, bringUp_eq]; rfl
  | bringUpFailed hs => rw [step_bringUp hs, bringUp_eq]; rfl
  | armBuffers hs hb => rw [step_armBuffers hs]; exact if_pos hb
  | registerHandler hs hb => rw [step_registerHandler hs]; exact if_pos hb
  | enableEvents hs hb => rw [step_enableEvents hs]; exact if_pos hb

/-- Every turn of the model that answers a next state is a move. -/
theorem moves_of_step {s t : State} (h : step s = .next t) : Moves s t := by
  obtain ⟨hs, rfl⟩ | ⟨act, rest, hs, ⟨e, n, rfl, hb, h⟩ | ⟨bytes, rfl, h⟩ | ⟨len, rfl, h⟩ | ⟨rfl, h⟩ |
    ⟨rfl, h⟩ | ⟨ok, rfl, h⟩ | ⟨rfl, h⟩ | ⟨rfl, h⟩ | ⟨rfl, h⟩⟩ := step_cases h
  · exact .idle hs
  · obtain rfl := Host.Outcome.next.inj ((exec_decodeEvent _ _).symm.trans h)
    exact .event hs hb
  · obtain ⟨ha, hp, -⟩ := masterWrite_next h
    obtain rfl := Host.Outcome.next.inj ((masterWrite_setSchedule (s := s) ha hp bytes rest).symm.trans h)
    exact .masterWrite hs ha hp
  · obtain ⟨rfl, ha, hp, rfl⟩ := masterRead_next h
    exact .masterRead hs ha hp
  · obtain ⟨hb, rfl⟩ := pollFlag_next h
    exact .consume hs hb
  · obtain rfl := Host.Outcome.next.inj ((blockReset_eq _).symm.trans h)
    exact .reset hs
  · obtain rfl := Host.Outcome.next.inj ((bringUp_eq _ _).symm.trans h)
    cases ok with
    | true => exact .bringUp hs
    | false => exact .bringUpFailed hs
  · obtain ⟨hb, rfl⟩ := armBuffers_next h
    exact .armBuffers hs hb
  · obtain ⟨hb, rfl⟩ := registerHandler_next h
    exact .registerHandler hs hb
  · obtain ⟨hb, rfl⟩ := enableEvents_next h
    exact .enableEvents hs hb

end Sys2Proof.Machine

/-! SUPPORT. Proofs of the statements on the machine's invariant (spec 43 R120, 70 R154): WB is canonical and each
buffer is owned by one side. -/

namespace Sys2Proof.Machine

/-! Who owns the buffers (spec 43 R120, 70 R154) -/

/-- Boot step 3, the arming of the buffers, is done (spec 70 R154). -/
def BootStage.pastArming : BootStage → Bool
  | .failed | .broughtUp | .blockReset => false
  | .armed | .registered | .running => true

theorem machineInv_iff (s : State) : machineInv s = true ↔ s.wb.wf = true ∧ buffersOwned s = true := by
  simp [machineInv]

/-- Who must own the buffers turns on boot step 3 alone. -/
theorem buffersOwned_eq (s : State) :
    buffersOwned s =
      if s.boot.pastArming then (s.wrArmed != s.wrPend.isSome) && (s.rdArmed != s.rdPend)
      else !s.wrArmed && s.wrPend.isNone && !s.rdArmed && !s.rdPend := by
  cases hb : s.boot <;> simp [buffersOwned, BootStage.pastArming, hb]

/-- From boot step 3 on, a buffer is armed exactly when no completion is owed for it. -/
theorem buffersOwned_iff_of_pastArming {s : State} (h : s.boot.pastArming = true) :
    buffersOwned s = true ↔ s.wrArmed = s.wrPend.isNone ∧ s.rdArmed = !s.rdPend := by
  rw [buffersOwned_eq, if_pos h]
  cases s.wrPend <;> simp [Bool.eq_not]

/-- Before boot step 3 nothing is armed and nothing is pending. -/
theorem buffersOwned_iff_of_not_pastArming {s : State} (h : s.boot.pastArming = false) :
    buffersOwned s = true ↔
      s.wrArmed = false ∧ s.wrPend = none ∧ s.rdArmed = false ∧ s.rdPend = false := by
  simp [buffersOwned_eq, h, and_assoc]

/-- An armed buffer has been armed by boot step 3 or after it. -/
theorem pastArming_of_armed {s : State} (ho : buffersOwned s = true)
    (ha : s.wrArmed = true ∨ s.rdArmed = true) : s.boot.pastArming = true := by
  by_contra h
  obtain ⟨hw, -, hr, -⟩ := (buffersOwned_iff_of_not_pastArming (eq_false_of_ne_true h)).1 ho
  simp [hw, hr] at ha

/-- RESET moves the boot sequence within the stages before boot step 3 or not at all. -/
theorem pastArming_reset (b : BootStage) :
    (if b = .broughtUp then .blockReset else b : BootStage).pastArming = b.pastArming := by
  cases b <;> rfl

/-! The invariant (spec 20 R40, 43 R120, 70 R154) -/

/-- Settles O53: nothing of WB is listed, armed or pending. -/
theorem invariantAtReset : Obligations.InvariantAtReset := rfl

/-- A word re-arms the write buffer exactly when it reports the write, and the read buffer likewise (spec 42 R97,
R99), so what it clears it hands back. -/
theorem buffersOwned_event {s : State} (hb : s.boot = .running) (ho : buffersOwned s = true)
    (e : EventWord) (n : Nat) (rest : List HostAct) :
    buffersOwned (stepEvent Config.pErrGatesAll e ((s.setSchedule rest).present e n)) = true := by
  have hpast : s.boot.pastArming = true := by rw [hb]; rfl
  obtain ⟨hw, hr⟩ := (buffersOwned_iff_of_pastArming hpast).1 ho
  rw [stepEvent_present, buffersOwned_iff_of_pastArming (by exact hpast)]
  constructor
  · cases evtWr e <;> simp [hw]
  · cases evtRd e <;> simp [hr]

/-- Settles O54, by the turns: only MW writes a byte of WB, and each turn that clears an armed bit or a completion sets
the other, but for those that leave the machine before boot step 3. -/
theorem invariantKeptByEveryTurn : Obligations.InvariantKeptByEveryTurn := by
  intro s t hinv h
  obtain ⟨hwf, ho⟩ := (machineInv_iff s).1 hinv
  rw [machineInv_iff]
  cases moves_of_step h with
  | idle => exact ⟨hwf, ho⟩
  | @event e n rest _ hb =>
    refine ⟨?_, buffersOwned_event hb ho e n rest⟩
    rw [stepEvent_present]
    exact hwf
  | @masterWrite bytes _ _ ha =>
    have hpast := pastArming_of_armed ho (.inl ha)
    obtain ⟨-, hr⟩ := (buffersOwned_iff_of_pastArming hpast).1 ho
    exact ⟨wf_receiveBytes s bytes hwf, (buffersOwned_iff_of_pastArming (by exact hpast)).2 ⟨rfl, hr⟩⟩
  | masterRead _ ha =>
    have hpast := pastArming_of_armed ho (.inr ha)
    obtain ⟨hw, -⟩ := (buffersOwned_iff_of_pastArming hpast).1 ho
    exact ⟨hwf, (buffersOwned_iff_of_pastArming (by exact hpast)).2 ⟨hw, rfl⟩⟩
  | consume => exact ⟨hwf, ho⟩
  | reset =>
    refine ⟨rfl, ?_⟩
    rw [buffersOwned_eq, pastArming_reset]
    exact (buffersOwned_eq s).symm.trans ho
  | bringUp => exact ⟨hwf, rfl⟩
  | bringUpFailed => exact ⟨hwf, rfl⟩
  | armBuffers => exact ⟨hwf, rfl⟩
  | registerHandler _ hb =>
    have hpast : s.boot.pastArming = true := by rw [hb]; rfl
    exact ⟨hwf, (buffersOwned_iff_of_pastArming rfl).2 ((buffersOwned_iff_of_pastArming hpast).1 ho)⟩
  | enableEvents _ hb =>
    have hpast : s.boot.pastArming = true := by rw [hb]; rfl
    exact ⟨hwf, (buffersOwned_iff_of_pastArming rfl).2 ((buffersOwned_iff_of_pastArming hpast).1 ho)⟩

end Sys2Proof.Machine

/-! SUPPORT. Proofs of the statements on what a step and a turn change and leave unchanged: the action list (spec 43
R118), the frame of every word, and the one writer of each location (spec 10 sections 2 and 5). -/

namespace Sys2Proof.Machine

/-! The action list (spec 43 R118) -/

/-- Of two action lists in a row, the second is carried out where the first ended. -/
theorem carryOut_append (s : State) (l m : List Action) :
    s.carryOut (l ++ m) = (s.carryOut l).carryOut m := by
  induction l generalizing s with
  | nil => rfl
  | cons a l ih => exact ih _

/-- Settles O14: the single actions by their calls, and the last clause because every word ends in a commit. -/
theorem actionListIsCarriedOutInOrder : Obligations.ActionListIsCarriedOutInOrder := by
  refine ⟨fun _ _ => rfl, fun _ => rfl, fun _ => rfl, fun _ => rfl, carryOut_append, fun _ => rfl, rfl, rfl,
    ?exec⟩
  case exec =>
    intro i s t h
    obtain ⟨w, hw⟩ := exec_is_commit i s
    obtain rfl := Host.Outcome.next.inj (hw.symm.trans h)
    exact ⟨w, rfl, commit_actions s w⟩

/-- Settles O27: EV_ERR_RD ends EV_ERR's step with part R, and the action list of every word with ERR is known. -/
theorem errorPartRunsFirst : Obligations.ErrorPartRunsFirst :=
  ⟨fun _ _ _ => next_commit_readPart, fun _ s he => ⟨_, exec_decodeEvent_of_err he s, rfl⟩⟩

/-! Frames of the event words (spec 42 sections 2 and 3) -/

/-- Settles O37: a commit writes the block's registers, CMP and the armed bits alone. -/
theorem frameOfEveryWord : Obligations.FrameOfEveryWord := by
  intro i s t h
  obtain ⟨w, hw⟩ := exec_is_commit i s
  obtain rfl := Host.Outcome.next.inj (hw.symm.trans h)
  rw [commit_eq]
  exact ⟨readWB_congr rfl rfl, rfl, rfl, rfl, rfl, rfl, rfl, rfl, rfl, rfl, rfl, rfl, rfl, rfl⟩

/-- Only the two words with WR and without ERR can make the block accept a frame. -/
theorem acceptedPayload_encode_of_ne {i : Instr} (hwr : i ≠ .evWr) (hwrrd : i ≠ .evWrRd) (n : Nat) (s : State) :
    acceptedPayload (encode i) n s = none := by
  cases i with
  | evWr => exact absurd rfl hwr
  | evWrRd => exact absurd rfl hwrrd
  | _ => rfl

/-- Settles O38: the next state of each word is known in full, and each clause names the words whose bits leave the
register's equation with the old value. -/
theorem frameOfWrittenRegisters : Obligations.FrameOfWrittenRegisters := by
  intro i s t h
  rw [exec_eq_stepEvent, stepEvent_eq] at h
  obtain rfl := Host.Outcome.next.inj h
  refine ⟨?control, ?flag, ?compare, ?writeArmed, ?readArmed⟩
  case control => rintro (rfl | rfl | rfl) <;> rfl
  case flag => rintro (rfl | rfl | rfl | rfl) <;> exact Bool.or_false _
  case compare =>
    intro hwr hwrrd
    simp only [acceptedPayload_encode_of_ne hwr hwrrd, Option.getD_none]
  case writeArmed => rintro (rfl | rfl | rfl | rfl) <;> exact Bool.or_false _
  case readArmed => rintro (rfl | rfl | rfl | rfl) <;> exact Bool.or_false _

/-! One writer per location (spec 10 sections 2 and 5, 20 section 4) -/

/-- A turn that is not RESET is MW, enabled while no write is pending, or leaves WB and leaves a pending write as it
is or reported. -/
theorem Moves.wb_cases {s t : State} (h : Moves s t) (hr : resetsNow s = false) :
    (∃ bytes rest, s.schedule = .masterWrite bytes :: rest ∧ s.wrPend = none ∧
        t.wb = (s.receiveBytes bytes).wb ∧ t.wrPend = some bytes.length) ∨
      (t.wb = s.wb ∧ t.wbEpoch = s.wbEpoch ∧ (t.wrPend = s.wrPend ∨ t.wrPend = none)) := by
  cases h with
  | @masterWrite bytes rest hs _ hp => exact .inl ⟨bytes, rest, hs, hp, rfl, rfl⟩
  | @event e n rest =>
    rw [stepEvent_present]
    refine .inr ⟨rfl, rfl, ?_⟩
    cases evtWr e with
    | true => exact .inr rfl
    | false => exact .inl rfl
  | reset hs => simp [resetsNow, hs] at hr
  | bringUp => exact .inr ⟨rfl, rfl, .inr rfl⟩
  | bringUpFailed => exact .inr ⟨rfl, rfl, .inr rfl⟩
  | armBuffers => exact .inr ⟨rfl, rfl, .inr rfl⟩
  | idle => exact .inr ⟨rfl, rfl, .inl rfl⟩
  | masterRead => exact .inr ⟨rfl, rfl, .inl rfl⟩
  | consume => exact .inr ⟨rfl, rfl, .inl rfl⟩
  | registerHandler => exact .inr ⟨rfl, rfl, .inl rfl⟩
  | enableEvents => exact .inr ⟨rfl, rfl, .inl rfl⟩

/-- A turn writes the pulse output as a successful bring-up, or as a step that applies the payload it accepts. -/
theorem Moves.pulse_eq {s t : State} (h : Moves s t) (hup : ∀ rest, s.schedule ≠ .bringUp true :: rest) :
    t.cmp = ((eventNow s).bind fun d => acceptedPayload d.1 d.2 s).getD s.cmp ∧
      t.pulsePeriod = s.pulsePeriod ∧ t.pulseEnabled = s.pulseEnabled := by
  cases h with
  | event hs hb =>
    rw [stepEvent_present]
    simp [eventNow, hs, hb]
  | @bringUp rest hs => exact absurd hs (hup rest)
  | idle hs => simp [eventNow, hs]
  | masterWrite hs => simp [eventNow, hs]
  | masterRead hs => simp [eventNow, hs]
  | consume hs => simp [eventNow, hs]
  | reset hs => simp [eventNow, hs]
  | bringUpFailed hs => simp [eventNow, hs]
  | armBuffers hs => simp [eventNow, hs]
  | registerHandler hs => simp [eventNow, hs]
  | enableEvents hs => simp [eventNow, hs]

/-- Settles O50: the block's registers by the three kinds of turn, WB and the pulse output by the turns that write
them. -/
theorem oneWriterPerLocation : Obligations.OneWriterPerLocation := by
  intro s t h
  refine ⟨?block, ?buffer, (moves_of_step h).pulse_eq, ?bringUp⟩
  case block =>
    intro hev hrs
    obtain ⟨e, n, rest, hev', -, -⟩ | ⟨-, hrs', -⟩ | ⟨-, -, hctrl, herr, hacts⟩ := step_block_cases h
    · simp [hev] at hev'
    · simp [hrs] at hrs'
    · exact ⟨hctrl, congrArg encStatus hctrl, herr, hacts⟩
  case buffer =>
    intro hrs hmw
    obtain ⟨bytes, rest, hs, -⟩ | ⟨hwb, hep, -⟩ := (moves_of_step h).wb_cases hrs
    · exact absurd hs (hmw bytes rest)
    · exact readWB_congr hwb hep
  case bringUp =>
    intro rest hs
    obtain rfl := Host.Outcome.next.inj ((Moves.bringUp hs).step_eq.symm.trans h)
    exact ⟨rfl, rfl, rfl⟩

/-! What a completed write leaves pending (spec 43 R127) -/

/-- After a write of the frame's length every byte of WB has been written. -/
theorem allWritten_receiveBytes {bytes : List Byte} (h : bytes.length = 3) (s : State) :
    allWritten (s.receiveBytes bytes).wb = true := by
  have hfill : s.receiveBytes bytes = { s with wb := fillWB bytes 0 s.wb } := if_pos h.le
  simp [hfill, allWritten, read_fillWB, h]

theorem frameHeld_iff (s : State) : frameHeld s = true ↔ (s.wrPend = some 3 → allWritten s.wb = true) := by
  simp [frameHeld, imp_iff_not_or]

/-- Settles O55: MW is enabled only with nothing pending and writes all of a frame it leaves pending; no other turn but
RESET touches WB. -/
theorem completedFrameStaysHeld : Obligations.CompletedFrameStaysHeld := by
  intro s t hrs h
  simp only [frameHeld_iff]
  obtain ⟨bytes, rest, -, hnone, hwb, hpend⟩ | ⟨hwb, hep, hpend⟩ := (moves_of_step h).wb_cases hrs
  · refine ⟨fun _ h3 => ?_, fun hp => absurd hnone hp⟩
    rw [hwb]
    exact allWritten_receiveBytes (Option.some.inj (hpend.symm.trans h3)) s
  · refine ⟨fun hheld h3 => ?_, fun _ => ⟨readWB_congr hwb hep, hpend⟩⟩
    rw [hwb]
    exact hheld (hpend.elim (fun hp => hp.symm.trans h3) fun hp => by simp [hp] at h3)

end Sys2Proof.Machine

/-! SUPPORT. Proofs of the statements on one turn: what is delivered and when (spec 43 R122, 70 R154), the turns that
stop, RESET, the boot sequence, and what the host's duties ensure (spec 43 section 3). -/

namespace Sys2Proof.Machine

/-! Delivery of an event word (spec 43 R117, R122) -/

theorem instr_wf (i : Instr) : i.wf = true := by
  cases i <;> rfl

/-- Settles O39: delivery is the schedule moving on and the ports taking what is presented. -/
theorem stepRunsTheDeliveredInstruction : Obligations.StepRunsTheDeliveredInstruction :=
  fun _ _ _ _ hb hs => ⟨instr_wf _, step_event hs hb⟩

/-- Settles O40: the port takes the encoding unshortened, which decodes to the instruction. -/
theorem placedWordIsTheNextInstruction : Obligations.PlacedWordIsTheNextInstruction := by
  intro s i nbits
  have hword : BitVec.ofNat 3 (encode i).toNat = encode i := by simp
  rw [State.withFetchWord, hword, step_event (s := s.placeEvent (encode i)) rfl rfl, decodeEvent_encode]
  rfl

/-- Settles O41: with an empty schedule no agent acts. -/
theorem idleMachineHoldsItsState : Obligations.IdleMachineHoldsItsState := fun _ => step_idle

/-! Transactions that stop (spec 43 R119, R121; log 10) -/

/-- Settles O45: a transaction's condition decides between its next state and its fault. -/
theorem transactionsWithoutAMoveStop : Obligations.TransactionsWithoutAMoveStop := by
  refine ⟨?write, ?read, ?partialRead, fun _ _ _ h => (masterRead_next h).1⟩
  case write =>
    intro s bytes rest hs
    rw [step_masterWrite hs]
    simp [masterWrite]
  case read =>
    intro s rest hs
    rw [step_masterRead hs]
    simp [masterRead, Config.frameLen]
  case partialRead =>
    intro s len rest hs hl
    rw [step_masterRead hs]
    exact if_pos hl

/-! RESET and the boot sequence (spec 70 section 1) -/

/-- Settles O47: RESET's next state is known in full, and it fixes the status and the reply. -/
theorem resetRestoresTheBlockAlone : Obligations.ResetRestoresTheBlockAlone :=
  fun _ _ hs => ⟨_, (Moves.reset hs).step_eq, rfl, rfl, rfl, fun _ => rfl⟩

/-- Settles O48, by the values at State.reset. -/
theorem resetValuesOfTheBlock : Obligations.ResetValuesOfTheBlock := ⟨rfl, rfl, rfl, rfl, rfl, rfl⟩

/-- A run that starts with a move goes on from where the move ends. -/
theorem run_of_moves {s u t : State} {k : Nat} (h : Moves s u) (hrun : Sys2Proof.core.run k u = .next t) :
    Sys2Proof.core.run (k + 1) s = .next t :=
  (run_cons k s t).2 ⟨u, h.step_eq, hrun⟩

/-- Settles O49: each of the five boot steps finds the stage that the one before it leaves. -/
theorem bootSequenceArmsAndRuns : Obligations.BootSequenceArmsAndRuns := by
  intro s rest hs
  refine ⟨_, run_of_moves (.bringUp hs) <| run_of_moves (.reset rfl) <| run_of_moves (.armBuffers rfl rfl) <|
    run_of_moves (.registerHandler rfl rfl) <| run_of_moves (.enableEvents rfl rfl) <| run_zero _, ?_⟩
  exact ⟨rfl, rfl, rfl, rfl, rfl, rfl, rfl, rfl, rfl, rfl⟩

/-! A boot sequence that is not complete, or has failed (spec 70 R154, R155; log 5) -/

/-- Only another bring-up ends a failed one. -/
theorem Moves.boot_failed {s t : State} (h : Moves s t) (hf : s.boot = .failed)
    (hup : ∀ ok rest, s.schedule ≠ .bringUp ok :: rest) : t.boot = .failed := by
  cases h with
  | event _ hb => simp [hf] at hb
  | consume _ hb => simp [hf] at hb
  | armBuffers _ hb => simp [hf] at hb
  | registerHandler _ hb => simp [hf] at hb
  | enableEvents _ hb => simp [hf] at hb
  | bringUp hs => exact absurd hs (hup true _)
  | bringUpFailed => rfl
  | reset => simp [hf]
  | idle => exact hf
  | masterWrite => exact hf
  | masterRead => exact hf

/-- After a failed bring-up with no buffer armed, nothing is read or polled, and no turn but RESET writes the block's
registers. -/
theorem Moves.unobserved_of_failed {s t : State} (h : Moves s t) (hf : s.boot = .failed)
    (hr : s.rdArmed = false) :
    t.lastReply = s.lastReply ∧ t.lastPoll = s.lastPoll ∧
      (s.ctrlState = .awaitingCommand → t.ctrlState = .awaitingCommand) ∧
      (s.errFlag = false → t.errFlag = false) := by
  cases h with
  | event _ hb => simp [hf] at hb
  | consume _ hb => simp [hf] at hb
  | masterRead _ ha => simp [hr] at ha
  | reset => exact ⟨rfl, rfl, fun _ => rfl, fun _ => rfl⟩
  | _ => exact ⟨rfl, rfl, id, id⟩

/-- Settles O42: the turns that need a running boot stage stop, and a failed one has neither an event nor an armed
buffer by the invariant. -/
theorem noEventBeforeBootCompletes : Obligations.NoEventBeforeBootCompletes := by
  refine ⟨fun _ _ _ _ hb hs => step_event_not_running hs hb, ?poll,
    fun _ _ hf h => (moves_of_step h).boot_failed hf, ?failed⟩
  case poll =>
    intro s rest hb hs
    rw [step_consume hs]
    exact if_neg hb
  case failed =>
    intro s t hf hinv h
    obtain ⟨-, ho⟩ := (machineInv_iff s).1 hinv
    obtain ⟨-, -, hr, -⟩ := (buffersOwned_iff_of_not_pastArming (by rw [hf]; rfl)).1 ho
    exact (moves_of_step h).unobserved_of_failed hf hr

/-! From the master to the pulse output (spec 43 R119, 42 R99, R113) -/

/-- The master's three bytes, with both markers in place, are accepted as a frame. -/
theorem acceptedPayload_receiveBytes {e : EventWord} (hw : evtWr e = true) (he : evtErr e = false)
    (s : State) (v : Byte) :
    acceptedPayload e 3 (s.receiveBytes [0x01#8, v, 0x17#8]) = some v := by
  have hread := readWB_receiveBytes_of_length_le (bs := [0x01#8, v, 0x17#8]) (Nat.le_refl 3) s
  have hok := (validate_eq_ok_iff 3 _ v).2 ⟨rfl, hread 0, hread 2, (hread 1).symm⟩
  simp [acceptedPayload, hw, he, hok]

/-- What the event that accepts a frame leaves of the pulse output, the write buffer and the reply. -/
theorem stepEvent_present_of_accepted {e : EventWord} {n : Nat} {s : State} {v : Byte}
    (hacc : acceptedPayload e n s = some v) (rest : List HostAct) :
    let t := stepEvent Config.pErrGatesAll e ((s.setSchedule rest).present e n)
    t.cmp = v ∧ t.wrArmed = true ∧ t.wrPend = none ∧
      t.replyBuffer = (if evtRd e then ⟨0x01#8, 0xFF#8, 0x17#8⟩ else ⟨0x01#8, 0x00#8, 0x17#8⟩) := by
  obtain ⟨hw, -, -⟩ := (acceptedPayload_isSome e n s).1 (by simp [hacc])
  rw [stepEvent_present]
  refine ⟨by simp [hacc], by simp [hw], by simp [hw], ?reply⟩
  case reply =>
    rw [replyBuffer_eq_encodeReply]
    cases evtRd e with
    | true => rfl
    | false => simp only [hacc]; rfl

/-- Settles O52: the three bytes fill WB, and the event accepts them. -/
theorem writtenFrameReachesThePulseOutput : Obligations.WrittenFrameReachesThePulseOutput := by
  intro s v e rest hb ha hp hw he hs
  refine ⟨_, run_of_moves (.masterWrite hs ha hp) <| run_of_moves (.event rfl hb) <| run_zero _, ?_⟩
  refine stepEvent_present_of_accepted (Eq.trans ?sameWB (acceptedPayload_receiveBytes hw he s v)) rest
  case sameWB => exact acceptedPayload_congr rfl rfl

/-! The host's duties (spec 43 section 3) -/

/-- Settles O56: each duty is the condition of the turn it is about. -/
theorem dutifulTurnsNeverStop : Obligations.DutifulTurnsNeverStop := by
  intro s hd
  cases hs : s.schedule with
  | nil => exact ⟨_, step_idle hs⟩
  | cons act rest =>
    simp only [dutiful, hs] at hd
    cases act with
    | event e n =>
      simp only [Bool.and_eq_true, decide_eq_true_eq] at hd
      exact ⟨_, (Moves.event hs hd.1).step_eq⟩
    | masterWrite bytes =>
      simp only [Bool.and_eq_true, Option.isNone_iff_eq_none] at hd
      exact ⟨_, (Moves.masterWrite hs hd.1 hd.2).step_eq⟩
    | masterRead len =>
      simp only [Bool.and_eq_true, decide_eq_true_eq, Bool.not_eq_true'] at hd
      obtain ⟨⟨rfl, ha⟩, hp⟩ := hd
      exact ⟨_, (Moves.masterRead hs ha hp).step_eq⟩
    | consume => exact ⟨_, (Moves.consume hs (of_decide_eq_true hd)).step_eq⟩
    | reset => exact ⟨_, (Moves.reset hs).step_eq⟩
    | bringUp ok =>
      cases ok with
      | true => exact ⟨_, (Moves.bringUp hs).step_eq⟩
      | false => exact ⟨_, (Moves.bringUpFailed hs).step_eq⟩
    | armBuffers => exact ⟨_, (Moves.armBuffers hs (of_decide_eq_true hd)).step_eq⟩
    | registerHandler => exact ⟨_, (Moves.registerHandler hs (of_decide_eq_true hd)).step_eq⟩
    | enableEvents => exact ⟨_, (Moves.enableEvents hs (of_decide_eq_true hd)).step_eq⟩

/-- Bytes that have all been written do not come from a draw. -/
theorem readWB_of_allWritten {s : State} (h : allWritten s.wb = true) (k : Nat) (a : Fin 3) :
    { s with wbEpoch := k }.readWB a = s.readWB a := by
  simp only [allWritten, Bool.and_eq_true, Option.isSome_iff_exists] at h
  obtain ⟨⟨⟨b0, h0⟩, ⟨b1, h1⟩⟩, ⟨b2, h2⟩⟩ := h
  fin_cases a <;> simp [State.readWB, h0, h1, h2]

/-- VALIDATE does not see the draw: it reads no byte at another length, and only written ones under duty R127. -/
theorem validate_of_written {n : Nat} {s : State} (h : n ≠ 3 ∨ allWritten s.wb = true) (k : Nat) :
    validate n { s with wbEpoch := k } = validate n s := by
  obtain hn | hall := h
  · rw [(validate_eq_invalid_iff _ _).2 (.inl hn), (validate_eq_invalid_iff _ _).2 (.inl hn)]
  · exact validate_congr_readWB n (readWB_of_allWritten hall k)

/-- A word delivered under the duties makes the block accept the same payload whatever the draw. -/
theorem acceptedPayload_of_duties {s : State} {e : EventWord} {n : Nat} (hd : eventDuties s e n = true)
    (k : Nat) : acceptedPayload e n { s with wbEpoch := k } = acceptedPayload e n s := by
  unfold acceptedPayload
  cases hinspect : evtWr e && !evtErr e with
  | false => rfl
  | true =>
    have hwritten : n ≠ 3 ∨ allWritten s.wb = true := by
      simp only [eventDuties, hinspect, Bool.not_true, Bool.false_or, Bool.and_eq_true, Bool.or_eq_true,
        decide_eq_true_eq] at hd
      exact hd.1.2
    rw [validate_of_written hwritten]

/-- Which bytes a master write leaves written does not depend on the draw. -/
theorem receiveBytes_wb_redrawn (s : State) (k : Nat) (bytes : List Byte) :
    ({ s with wbEpoch := k }.receiveBytes bytes).wb = (s.receiveBytes bytes).wb := by
  unfold State.receiveBytes
  split <;> rfl

/-- A dutiful move is a move under every other draw, to the same state but for the draw's number. -/
theorem Moves.redrawn {s t : State} (h : Moves s t) (hd : dutiful s = true) (k : Nat) :
    ∃ t', Moves { s with wbEpoch := k } t' ∧ t' = { t with wbEpoch := t'.wbEpoch } := by
  cases h with
  | idle hs => exact ⟨_, .idle hs, rfl⟩
  | @event e n rest hs hb =>
    refine ⟨_, .event hs hb, ?_⟩
    simp only [dutiful, hs, Bool.and_eq_true] at hd
    simp only [stepEvent_present, acceptedPayload_of_duties hd.2 k]
  | @masterWrite bytes rest hs ha hp =>
    refine ⟨_, .masterWrite hs ha hp, ?_⟩
    rw [receiveBytes_wb_redrawn]
  | masterRead hs ha hp => exact ⟨_, .masterRead hs ha hp, rfl⟩
  | consume hs hb => exact ⟨_, .consume hs hb, rfl⟩
  | reset hs => exact ⟨_, .reset hs, rfl⟩
  | bringUp hs => exact ⟨_, .bringUp hs, rfl⟩
  | bringUpFailed hs => exact ⟨_, .bringUpFailed hs, rfl⟩
  | armBuffers hs hb => exact ⟨_, .armBuffers hs hb, rfl⟩
  | registerHandler hs hb => exact ⟨_, .registerHandler hs hb, rfl⟩
  | enableEvents hs hb => exact ⟨_, .enableEvents hs hb, rfl⟩

/-- Settles O57: the dutiful turn answers, and so it does under the other draw. -/
theorem unspecifiedBytesAreNeverObserved : Obligations.UnspecifiedBytesAreNeverObserved := by
  intro s k hd
  obtain ⟨t, h⟩ := dutifulTurnsNeverStop s hd
  obtain ⟨t', h', heq⟩ := (moves_of_step h).redrawn hd k
  exact ⟨t, t', h, h'.step_eq, heq⟩

end Sys2Proof.Machine
